-- ==== Sys2Proof/Word.lean ====
section
/-! DEFINITION. The two word types of the core: a data byte (rule R60) and a bus address (rule R50). -/

namespace Sys2Proof

/-- An 8-bit register or memory value (rules R7, R170). -/
abbrev Byte := BitVec 8

/-- A 16-bit bus address or program counter (rules R7, R27, R50). -/
abbrev Addr := BitVec 16

end Sys2Proof
end

