-- ==== Sys2Proof/Config.lean ====
section
/-! DEFINITION. What the spec leaves to the implementation: the parameters of rule R8, the vocabulary of the PPU relay
(rules R9, R55, R56) and of the event history (rule R74), and the PPU oracle, the one free value of the model. -/

namespace Sys2Proof

/-- The ten calls the Bus can relay to the PPU collaborator, with the argument of a setter (rule R9 (c)). -/
inductive PpuCall where
  | writeControl (v : Byte)
  | writeMask (v : Byte)
  | setOamAddress (v : Byte)
  | readOamData
  | writeOamData (v : Byte)
  | writeScroll (v : Byte)
  | writeAddress (v : Byte)
  | readData
  | writeData (v : Byte)
  | readStatus
  deriving DecidableEq, Repr

/-- The PPU's answer to one relayed call (rule R56): `done v` is the byte of a read call and, its byte ignored, the `ok` of
a write call; `fault` is `PpuFault`. -/
inductive PpuAnswer where
  | done (v : Byte)
  | fault
  deriving DecidableEq, Repr, Inhabited

/-- The kinds of a bus access (rule R74). -/
inductive AccessKind where
  | fetch
  | operand
  | pointer
  | dataRead
  | dataWrite
  | stackRead
  | stackWrite
  | vectorRead
  deriving DecidableEq, Repr

/-- One event of the history (rule R74): the access, the address as the instruction issued it, the byte read or written
(`none` when the access gave no byte, which only a fatal read does: assumption log 14) and the relayed call, if any. -/
structure BusEvent where
  kind : AccessKind
  addr : Addr
  value : Option Byte
  call : Option PpuCall
  deriving DecidableEq, Repr

/-- The parameters of rule R8 that are plain values. They are fixed for a machine: no step writes them
(assumption log 1). -/
structure Config where
  /-- `SP_RESET`, D1. -/
  spReset : Byte
  /-- `BRK_SETS_B`, D9. -/
  brkSetsB : Bool
  /-- `ADMIT_UNSTABLE`, D13. -/
  admitUnstable : Bool
  /-- `XAA_MAGIC`, D14. -/
  xaaMagic : Byte
  /-- `LXA_MAGIC`, D14. -/
  lxaMagic : Byte
  deriving DecidableEq, Repr

/-- The parameter values of the reset state. `admitUnstable` is the spec's default (D13, assumption log 6); the others
are OPEN in the spec. DESIGN CHOICE (assumption log 2, 5, 7), unsafe: `spReset` 0xFD, `brkSetsB` false, the two magic
constants 0x00. -/
def Config.default : Config :=
  { spReset := 0xFD, brkSetsB := false, admitUnstable := false, xaaMagic := 0x00, lxaMagic := 0x00 }

/-- The PPU oracle of rule R56: what the PPU answers to a call, given every earlier access of the machine. A free value:
nothing says what it is (assumption log 8), safe. -/
opaque Config.ppuOracle : List BusEvent → PpuCall → PpuAnswer

end Sys2Proof
end

