-- ==== Sys2Proof/Syntax.lean ====
section
/-! DEFINITION. The instructions: one constructor of `Instr` per row of spec/opcode_table.json, that is per opcode byte
(rules R96, R112). The operand of a constructor is exactly the operand bytes its encoding has (rule R90). -/

namespace Sys2Proof

/-- The mnemonics of the opcode table (rules R112, R116). -/
inductive Mnemonic where
  | BRK | ORA | KIL | SLO | NOP | ASL | PHP | ANC | BPL | CLC
  | JSR | AND | RLA | BIT | ROL | PLP | BMI | SEC | RTI | EOR
  | SRE | LSR | PHA | ALR | JMP | BVC | CLI | RTS | ADC | RRA
  | ROR | PLA | ARR | BVS | SEI | STA | SAX | STY | STX | DEY
  | TXA | XAA | BCC | SHA | TYA | TXS | TAS | SHY | SHX | LDY
  | LDA | LDX | LAX | TAY | TAX | LXA | BCS | CLV | TSX | LAS
  | CPY | CMP | DCP | DEC | INY | DEX | AXS | BNE | CLD | CPX
  | SBC | ISB | INC | INX | BEQ | SED
  deriving DecidableEq, Repr

/-- The addressing modes, "a closed enumeration of 10 variants" (rule R93). -/
inductive AddrMode where
  | immediate | zeroPage | zeroPageX | zeroPageY | absolute | absoluteX | absoluteY | indirectX | indirectY
  | noneAddressing
  deriving DecidableEq, Repr

/-- An instruction's operand form with its operand bytes (rules R90, R112). `accumulator`, `relative`, `target` and
`indirectTarget` carry NoneAddressing in the table: their bodies use the operand themselves (rule R93). -/
inductive Operand where
  | implied
  | accumulator
  | immediate (b : Byte)
  | zeroPage (z : Byte)
  | zeroPageX (z : Byte)
  | zeroPageY (z : Byte)
  | absolute (a : Addr)
  | absoluteX (a : Addr)
  | absoluteY (a : Addr)
  | indirectX (z : Byte)
  | indirectY (z : Byte)
  | relative (r : Byte)
  | target (a : Addr)
  | indirectTarget (a : Addr)
  deriving DecidableEq, Repr

/-- The instructions, one constructor per opcode byte of the map (rule R112), the rows with operand bytes first and each
part in the map's order. The name is the mnemonic and its form; where the map gives one mnemonic and form several bytes,
the byte stands in the name. -/
inductive Instr where
  -- rows with operand bytes
  | oraIndX (z : Byte)
  | sloIndX (z : Byte)
  | nop04Zp (z : Byte)
  | oraZp (z : Byte)
  | aslZp (z : Byte)
  | sloZp (z : Byte)
  | oraImm (b : Byte)
  | anc0BImm (b : Byte)
  | nop0CAbs (a : Addr)
  | oraAbs (a : Addr)
  | aslAbs (a : Addr)
  | sloAbs (a : Addr)
  | bpl (r : Byte)
  | oraIndY (z : Byte)
  | sloIndY (z : Byte)
  | nop14ZpX (z : Byte)
  | oraZpX (z : Byte)
  | aslZpX (z : Byte)
  | sloZpX (z : Byte)
  | oraAbsY (a : Addr)
  | sloAbsY (a : Addr)
  | nop1CAbsX (a : Addr)
  | oraAbsX (a : Addr)
  | aslAbsX (a : Addr)
  | sloAbsX (a : Addr)
  | jsr (a : Addr)
  | andIndX (z : Byte)
  | rlaIndX (z : Byte)
  | bitZp (z : Byte)
  | andZp (z : Byte)
  | rolZp (z : Byte)
  | rlaZp (z : Byte)
  | andImm (b : Byte)
  | anc2BImm (b : Byte)
  | bitAbs (a : Addr)
  | andAbs (a : Addr)
  | rolAbs (a : Addr)
  | rlaAbs (a : Addr)
  | bmi (r : Byte)
  | andIndY (z : Byte)
  | rlaIndY (z : Byte)
  | nop34ZpX (z : Byte)
  | andZpX (z : Byte)
  | rolZpX (z : Byte)
  | rlaZpX (z : Byte)
  | andAbsY (a : Addr)
  | rlaAbsY (a : Addr)
  | nop3CAbsX (a : Addr)
  | andAbsX (a : Addr)
  | rolAbsX (a : Addr)
  | rlaAbsX (a : Addr)
  | eorIndX (z : Byte)
  | sreIndX (z : Byte)
  | nop44Zp (z : Byte)
  | eorZp (z : Byte)
  | lsrZp (z : Byte)
  | sreZp (z : Byte)
  | eorImm (b : Byte)
  | alrImm (b : Byte)
  | jmpAbs (a : Addr)
  | eorAbs (a : Addr)
  | lsrAbs (a : Addr)
  | sreAbs (a : Addr)
  | bvc (r : Byte)
  | eorIndY (z : Byte)
  | sreIndY (z : Byte)
  | nop54ZpX (z : Byte)
  | eorZpX (z : Byte)
  | lsrZpX (z : Byte)
  | sreZpX (z : Byte)
  | eorAbsY (a : Addr)
  | sreAbsY (a : Addr)
  | nop5CAbsX (a : Addr)
  | eorAbsX (a : Addr)
  | lsrAbsX (a : Addr)
  | sreAbsX (a : Addr)
  | adcIndX (z : Byte)
  | rraIndX (z : Byte)
  | nop64Zp (z : Byte)
  | adcZp (z : Byte)
  | rorZp (z : Byte)
  | rraZp (z : Byte)
  | adcImm (b : Byte)
  | arrImm (b : Byte)
  | jmpInd (a : Addr)
  | adcAbs (a : Addr)
  | rorAbs (a : Addr)
  | rraAbs (a : Addr)
  | bvs (r : Byte)
  | adcIndY (z : Byte)
  | rraIndY (z : Byte)
  | nop74ZpX (z : Byte)
  | adcZpX (z : Byte)
  | rorZpX (z : Byte)
  | rraZpX (z : Byte)
  | adcAbsY (a : Addr)
  | rraAbsY (a : Addr)
  | nop7CAbsX (a : Addr)
  | adcAbsX (a : Addr)
  | rorAbsX (a : Addr)
  | rraAbsX (a : Addr)
  | nop80Imm (b : Byte)
  | staIndX (z : Byte)
  | nop82Imm (b : Byte)
  | saxIndX (z : Byte)
  | styZp (z : Byte)
  | staZp (z : Byte)
  | stxZp (z : Byte)
  | saxZp (z : Byte)
  | nop89Imm (b : Byte)
  | xaaImm (b : Byte)
  | styAbs (a : Addr)
  | staAbs (a : Addr)
  | stxAbs (a : Addr)
  | saxAbs (a : Addr)
  | bcc (r : Byte)
  | staIndY (z : Byte)
  | shaIndY (z : Byte)
  | styZpX (z : Byte)
  | staZpX (z : Byte)
  | stxZpY (z : Byte)
  | saxZpY (z : Byte)
  | staAbsY (a : Addr)
  | tasAbsY (a : Addr)
  | shyAbsX (a : Addr)
  | staAbsX (a : Addr)
  | shxAbsY (a : Addr)
  | shaAbsY (a : Addr)
  | ldyImm (b : Byte)
  | ldaIndX (z : Byte)
  | ldxImm (b : Byte)
  | laxIndX (z : Byte)
  | ldyZp (z : Byte)
  | ldaZp (z : Byte)
  | ldxZp (z : Byte)
  | laxZp (z : Byte)
  | ldaImm (b : Byte)
  | lxaImm (b : Byte)
  | ldyAbs (a : Addr)
  | ldaAbs (a : Addr)
  | ldxAbs (a : Addr)
  | laxAbs (a : Addr)
  | bcs (r : Byte)
  | ldaIndY (z : Byte)
  | laxIndY (z : Byte)
  | ldyZpX (z : Byte)
  | ldaZpX (z : Byte)
  | ldxZpY (z : Byte)
  | laxZpY (z : Byte)
  | ldaAbsY (a : Addr)
  | lasAbsY (a : Addr)
  | ldyAbsX (a : Addr)
  | ldaAbsX (a : Addr)
  | ldxAbsY (a : Addr)
  | laxAbsY (a : Addr)
  | cpyImm (b : Byte)
  | cmpIndX (z : Byte)
  | nopC2Imm (b : Byte)
  | dcpIndX (z : Byte)
  | cpyZp (z : Byte)
  | cmpZp (z : Byte)
  | decZp (z : Byte)
  | dcpZp (z : Byte)
  | cmpImm (b : Byte)
  | axsImm (b : Byte)
  | cpyAbs (a : Addr)
  | cmpAbs (a : Addr)
  | decAbs (a : Addr)
  | dcpAbs (a : Addr)
  | bne (r : Byte)
  | cmpIndY (z : Byte)
  | dcpIndY (z : Byte)
  | nopD4ZpX (z : Byte)
  | cmpZpX (z : Byte)
  | decZpX (z : Byte)
  | dcpZpX (z : Byte)
  | cmpAbsY (a : Addr)
  | dcpAbsY (a : Addr)
  | nopDCAbsX (a : Addr)
  | cmpAbsX (a : Addr)
  | decAbsX (a : Addr)
  | dcpAbsX (a : Addr)
  | cpxImm (b : Byte)
  | sbcIndX (z : Byte)
  | nopE2Imm (b : Byte)
  | isbIndX (z : Byte)
  | cpxZp (z : Byte)
  | sbcZp (z : Byte)
  | incZp (z : Byte)
  | isbZp (z : Byte)
  | sbcImm (b : Byte)
  | sbcEBImm (b : Byte)
  | cpxAbs (a : Addr)
  | sbcAbs (a : Addr)
  | incAbs (a : Addr)
  | isbAbs (a : Addr)
  | beq (r : Byte)
  | sbcIndY (z : Byte)
  | isbIndY (z : Byte)
  | nopF4ZpX (z : Byte)
  | sbcZpX (z : Byte)
  | incZpX (z : Byte)
  | isbZpX (z : Byte)
  | sbcAbsY (a : Addr)
  | isbAbsY (a : Addr)
  | nopFCAbsX (a : Addr)
  | sbcAbsX (a : Addr)
  | incAbsX (a : Addr)
  | isbAbsX (a : Addr)
  -- rows of one byte
  | brk
  | kil02
  | php
  | aslA
  | kil12
  | clc
  | nop1A
  | kil22
  | plp
  | rolA
  | kil32
  | sec
  | nop3A
  | rti
  | kil42
  | pha
  | lsrA
  | kil52
  | cli
  | nop5A
  | rts
  | kil62
  | pla
  | rorA
  | kil72
  | sei
  | nop7A
  | dey
  | txa
  | kil92
  | tya
  | txs
  | tay
  | tax
  | kilB2
  | clv
  | tsx
  | iny
  | dex
  | kilD2
  | cld
  | nopDA
  | inx
  | nopEA
  | kilF2
  | sed
  | nopFA
  deriving DecidableEq, Repr

end Sys2Proof
end

