-- ==== Sys2Proof/Machine/State.lean ====
section
/-! DEFINITION. The machine's state as plain data, why a step can stop, and the state after reset (spec/10_state.md). -/

namespace Sys2Proof.Machine

/-- The fatal kinds (rule R312). -/
inductive FatalKind where
  | unknownOpcode
  | noneAddressingResolved
  | writeOnlyRead
  | ppuStatusWrite
  | romWrite
  | ppuFault
  deriving DecidableEq, Repr

/-- The record a fatal error carries, but for its kind and code, which the `Fault` constructor gives (rule R311).
`opcode` is `none` for a fault of the opcode fetch itself, `access` is `none` for kinds with no access. -/
structure FatalRecord where
  opaddr : Addr
  opcode : Option Byte
  addr : Addr
  access : Option AccessKind
  deriving DecidableEq, Repr

/-- The fatal errors (rules R311, R312). Each carries its record and the history up to and including the faulting access,
which is all that is observable after a fatal error (rule R311, assumption log 15). All of them are the spec's own stops:
safe. -/
inductive Fault where
  /-- Step 3 of the fetch protocol (rule R313). Raised by `fetch` for a byte absent from the table; there is none
  (rule R96), so it is unreachable. Safe. -/
  | unknownOpcode (r : FatalRecord) (history : List BusEvent)
  /-- Resolving an operand form that has no address (rule R314). Raised by `resolve`; no opcode reaches it (rule R108).
  Safe. -/
  | noneAddressingResolved (r : FatalRecord) (history : List BusEvent)
  /-- A bus read of a write-only PPU register (rule R315). Raised by `read8`. Safe. -/
  | writeOnlyRead (r : FatalRecord) (history : List BusEvent)
  /-- A bus write of the PPU status register (rule R316). Raised by `write8`. Safe. -/
  | ppuStatusWrite (r : FatalRecord) (history : List BusEvent)
  /-- A bus write to 0x8000-0xFFFF (rule R317). Raised by `write8`. Safe. -/
  | romWrite (r : FatalRecord) (history : List BusEvent)
  /-- A relayed call the PPU answers with a fault (rule R318). Raised by `read8` and `write8`. Safe. -/
  | ppuFault (r : FatalRecord) (history : List BusEvent)
  deriving DecidableEq, Repr

/-- Why a run halted (rule R320). -/
inductive HaltReason where
  | brk
  | kil
  deriving DecidableEq, Repr

/-- The run status (rule R37), with the two states before a run that rules R340 and R341 give: constructed and never
reset, and reset but not running. -/
inductive RunStatus where
  | constructed
  | ready
  | running
  | halted (reason : HaltReason)
  | faulted (f : Fault)
  | refused (op : Byte)
  deriving DecidableEq, Repr

/-- Why the model gives no next state where the core has no fatal error. -/
inductive Refusal where
  /-- An instruction with no meaning yet, by its mnemonic. Raised by a refused arm of `exec` only; no arm is one. Safe. -/
  | notModelled (mnemonic : String)
  /-- An unstable opcode while `ADMIT_UNSTABLE` is false (rules R279, R310). Raised by `fetch` and by the meanings of
  Machine/Unstable.lean. Safe: "Refusal errs toward unprovable". -/
  | unstableOpcode (op : Byte)
  /-- A step, a `run` or a `reset()` that the run status does not admit (rules R37, R40, R346). Raised by `step`,
  `startRun` and `hostReset`. Safe. -/
  | notAdmitted (status : RunStatus)
  /-- A cartridge image of another length than 16384 or 32768 (D3, rule R340). Raised by `construct`. Safe. -/
  | imageLength (n : Nat)
  deriving DecidableEq, Repr

/-- A memory array: (index, byte) pairs, indexes strictly rising, no entry equal to what an unlisted index reads as
(`Memory.wf`, Machine/Ops.lean). -/
abbrev Memory := List Host.Cell

/-- The length of the cartridge program image: "Only lengths 16384 and 32768 are admitted" (D3, rule R57). -/
inductive PrgSize where
  | kib16
  | kib32
  deriving DecidableEq, Repr

/-- The state (spec/10_state.md). The register file is complete (rules R20, R34). -/
structure State where
  /-- Accumulator (rule R21). -/
  a : Byte
  /-- Index register X (rule R22). -/
  x : Byte
  /-- Index register Y (rule R22). -/
  y : Byte
  /-- Stack pointer (rule R26). -/
  sp : Byte
  /-- Program counter (rule R27). -/
  pc : Addr
  /-- Status byte, `N V B2 B D I Z C` from bit 7 down (rule R23); its flags are read and written in Machine/Flags.lean. -/
  p : Byte
  /-- The 2048 bytes of RAM, by RAM index (rules R38, R53). -/
  ram : Memory
  /-- The cartridge program memory, by image index (rules R38, R57). -/
  prg : Memory
  /-- The length of the cartridge image (rule R57). -/
  prgSize : PrgSize
  /-- Run status (rule R37). -/
  status : RunStatus
  /-- The event history, oldest first (rule R74). -/
  history : List BusEvent
  /-- The model's own field for the PPU oracle of rule R8: the answers it has ready for the next relayed calls
  (assumption log 9). -/
  ppuScript : List PpuAnswer
  /-- The parameters of rule R8 (assumption log 1). -/
  config : Config
  deriving DecidableEq, Repr

/-- The state after `construct` with an empty 32 KiB image, `reset()` and the start of `run` (rules R39, R342, R345).
`pc` is the reset vector, and `history` the two vector reads (rule R343), of an image in which nothing is listed.
DEDUCED: the status is Running, since "Running once `run` is called" (assumption log 10). DESIGN CHOICE, unsafe: SP, RAM,
PRG and the OPEN parameters (assumption log 2 to 5, 7). -/
def State.reset : State :=
  { a := 0x00
    x := 0x00
    y := 0x00
    sp := Config.default.spReset
    pc := 0x0000
    p := 0x24
    ram := []
    prg := []
    prgSize := .kib32
    status := .running
    history :=
      [{ kind := .vectorRead, addr := 0xFFFC, value := some 0x00, call := none },
       { kind := .vectorRead, addr := 0xFFFD, value := some 0x00, call := none }]
    ppuScript := []
    config := Config.default }

end Sys2Proof.Machine
end

