-- ==== Sys2Proof/Machine/Flags.lean ====
section
/-! DEFINITION. The status flags (rules R23 to R25) and every flag computation: the adder (R171), the compare (R177), the
shifts (R188), and the status byte as pushed and pulled (R32, R33). -/

namespace Sys2Proof.Machine

/-- The eight flags (rule R23). -/
inductive Flag where
  | C | Z | I | D | B | B2 | V | N
  deriving DecidableEq, Repr

/-- The bit of `P` a flag is (rule R23). -/
def Flag.bit (f : Flag) : Nat :=
  match f with
  | .C => 0
  | .Z => 1
  | .I => 2
  | .D => 3
  | .B => 4
  | .B2 => 5
  | .V => 6
  | .N => 7

/-- The flag's bit alone. -/
def Flag.mask (f : Flag) : Byte := 1#8 <<< f.bit

/-- A status byte with one flag written. -/
def withFlag (f : Flag) (v : Bool) (p : Byte) : Byte :=
  if v then p ||| f.mask else p &&& ~~~f.mask

/-- Read a flag. -/
def State.flag (s : State) (f : Flag) : Bool := s.p.getLsbD f.bit

/-- Write a flag, and nothing else. -/
def State.setFlag (s : State) (f : Flag) (v : Bool) : State := { s with p := withFlag f v s.p }

/-- `setZN(v)` on a status byte: "Zero flag set iff the result byte is exactly 0; Negative flag set iff bit 7 of the result
byte is 1" (rule R25). -/
def withZN (v p : Byte) : Byte := withFlag .N (v.getLsbD 7) (withFlag .Z (v == 0x00) p)

/-- `setZN(v)` (rule R25). -/
def State.setZN (s : State) (v : Byte) : State := { s with p := withZN v s.p }

/-- A sum with its carry and overflow (rule R171). -/
structure Sum where
  value : Byte
  carry : Bool
  overflow : Bool
  deriving DecidableEq, Repr

/-- `adc_core(a, m, c)` (rule R171), with its 16-bit intermediate sum. -/
def adcCore (a m : Byte) (c : Bool) : Sum :=
  let sum : BitVec 16 := a.setWidth 16 + m.setWidth 16 + (if c then 1 else 0)
  let r : Byte := sum.setWidth 8
  { value := r
    carry := decide (0xFF < sum.toNat)
    overflow := ((m ^^^ r) &&& (a ^^^ r) &&& 0x80) != 0 }

/-- Add `m` and the carry to A: the effect of ADC, and of SBC on the inverted operand (rules R172, R173). -/
def addToA (m : Byte) (s : State) : State :=
  let r := adcCore s.a m (s.flag .C)
  State.setZN (State.setFlag (State.setFlag { s with a := r.value } .C r.carry) .V r.overflow) r.value

/-- Subtract `m` and the borrow from A: "ADC with the operand bitwise-inverted" (rule R173). -/
def subFromA (m : Byte) (s : State) : State := addToA (~~~m) s

/-- The compare primitive `compare(reg, m)` (rule R177). -/
def compareReg (reg m : Byte) (s : State) : State :=
  State.setZN (State.setFlag s .C (decide (m.toNat ≤ reg.toNat))) (reg - m)

/-- A shifted byte and the bit shifted out (rule R188). -/
structure Shifted where
  value : Byte
  carry : Bool
  deriving DecidableEq, Repr

/-- `asl(v)` (rule R188). -/
def asl (v : Byte) : Shifted := { value := v <<< 1, carry := v.getLsbD 7 }

/-- `lsr(v)` (rule R188). -/
def lsr (v : Byte) : Shifted := { value := v >>> 1, carry := v.getLsbD 0 }

/-- `rol(v, c)` (rule R188). -/
def rol (v : Byte) (c : Bool) : Shifted :=
  { value := (v <<< 1) ||| (if c then 0x01 else 0x00), carry := v.getLsbD 7 }

/-- `ror(v, c)` (rule R188). -/
def ror (v : Byte) (c : Bool) : Shifted :=
  { value := (v >>> 1) ||| (if c then 0x80 else 0x00), carry := v.getLsbD 0 }

/-- `P.C <- cout; setZN(r)` for a shift's result (rule R188). -/
def State.setShiftFlags (s : State) (r : Shifted) : State := (s.setFlag .C r.carry).setZN r.value

/-- The status byte as PHP pushes it, `P | 0x30` (rule R32). -/
def pushedStatus (p : Byte) : Byte := p ||| 0x30

/-- The status byte as RTI and PLP load it, `(s & ~0x10) | 0x20` (rule R33, D10). -/
def pulledStatus (v : Byte) : Byte := (v &&& 0xEF) ||| 0x20

end Sys2Proof.Machine
end

