-- ==== Sys2Proof/Decode.lean ====
section
/-! DEFINITION. The Opcode Table both ways: the decoder from bytes (rules R90, R91, R112), then the table row of each
instruction and the encoder written from it. Also the byte-order helpers both use (rule R59). -/

namespace Sys2Proof

/-- The low byte of a 16-bit value. -/
def lo8 (v : Addr) : Byte := v.setWidth 8

/-- The high byte of a 16-bit value. -/
def hi8 (v : Addr) : Byte := (v >>> 8).setWidth 8

/-- `hi ++ lo`, the 16-bit value of two bytes (rules R10, R59). -/
def word16 (hi lo : Byte) : Addr := hi ++ lo

/-- What an opcode byte says of its instruction: the operand bytes that follow and the instruction they make (rule R90).
`immediate` is apart from `byte` because an immediate byte is read by the instruction body, as data (rule R99). -/
inductive Form where
  | implied (i : Instr)
  | immediate (k : Byte → Instr)
  | byte (k : Byte → Instr)
  | word (k : Addr → Instr)

/-- Row 0x of the opcode map (rule R112). -/
def formRow0 (lo : Nat) : Option Form :=
  match lo with
  | 0x0 => some (.implied .brk)
  | 0x1 => some (.byte .oraIndX)
  | 0x2 => some (.implied .kil02)
  | 0x3 => some (.byte .sloIndX)
  | 0x4 => some (.byte .nop04Zp)
  | 0x5 => some (.byte .oraZp)
  | 0x6 => some (.byte .aslZp)
  | 0x7 => some (.byte .sloZp)
  | 0x8 => some (.implied .php)
  | 0x9 => some (.immediate .oraImm)
  | 0xA => some (.implied .aslA)
  | 0xB => some (.immediate .anc0BImm)
  | 0xC => some (.word .nop0CAbs)
  | 0xD => some (.word .oraAbs)
  | 0xE => some (.word .aslAbs)
  | 0xF => some (.word .sloAbs)
  | _ => none

/-- Row 1x of the opcode map (rule R112). -/
def formRow1 (lo : Nat) : Option Form :=
  match lo with
  | 0x0 => some (.byte .bpl)
  | 0x1 => some (.byte .oraIndY)
  | 0x2 => some (.implied .kil12)
  | 0x3 => some (.byte .sloIndY)
  | 0x4 => some (.byte .nop14ZpX)
  | 0x5 => some (.byte .oraZpX)
  | 0x6 => some (.byte .aslZpX)
  | 0x7 => some (.byte .sloZpX)
  | 0x8 => some (.implied .clc)
  | 0x9 => some (.word .oraAbsY)
  | 0xA => some (.implied .nop1A)
  | 0xB => some (.word .sloAbsY)
  | 0xC => some (.word .nop1CAbsX)
  | 0xD => some (.word .oraAbsX)
  | 0xE => some (.word .aslAbsX)
  | 0xF => some (.word .sloAbsX)
  | _ => none

/-- Row 2x of the opcode map (rule R112). -/
def formRow2 (lo : Nat) : Option Form :=
  match lo with
  | 0x0 => some (.word .jsr)
  | 0x1 => some (.byte .andIndX)
  | 0x2 => some (.implied .kil22)
  | 0x3 => some (.byte .rlaIndX)
  | 0x4 => some (.byte .bitZp)
  | 0x5 => some (.byte .andZp)
  | 0x6 => some (.byte .rolZp)
  | 0x7 => some (.byte .rlaZp)
  | 0x8 => some (.implied .plp)
  | 0x9 => some (.immediate .andImm)
  | 0xA => some (.implied .rolA)
  | 0xB => some (.immediate .anc2BImm)
  | 0xC => some (.word .bitAbs)
  | 0xD => some (.word .andAbs)
  | 0xE => some (.word .rolAbs)
  | 0xF => some (.word .rlaAbs)
  | _ => none

/-- Row 3x of the opcode map (rule R112). -/
def formRow3 (lo : Nat) : Option Form :=
  match lo with
  | 0x0 => some (.byte .bmi)
  | 0x1 => some (.byte .andIndY)
  | 0x2 => some (.implied .kil32)
  | 0x3 => some (.byte .rlaIndY)
  | 0x4 => some (.byte .nop34ZpX)
  | 0x5 => some (.byte .andZpX)
  | 0x6 => some (.byte .rolZpX)
  | 0x7 => some (.byte .rlaZpX)
  | 0x8 => some (.implied .sec)
  | 0x9 => some (.word .andAbsY)
  | 0xA => some (.implied .nop3A)
  | 0xB => some (.word .rlaAbsY)
  | 0xC => some (.word .nop3CAbsX)
  | 0xD => some (.word .andAbsX)
  | 0xE => some (.word .rolAbsX)
  | 0xF => some (.word .rlaAbsX)
  | _ => none

/-- Row 4x of the opcode map (rule R112). -/
def formRow4 (lo : Nat) : Option Form :=
  match lo with
  | 0x0 => some (.implied .rti)
  | 0x1 => some (.byte .eorIndX)
  | 0x2 => some (.implied .kil42)
  | 0x3 => some (.byte .sreIndX)
  | 0x4 => some (.byte .nop44Zp)
  | 0x5 => some (.byte .eorZp)
  | 0x6 => some (.byte .lsrZp)
  | 0x7 => some (.byte .sreZp)
  | 0x8 => some (.implied .pha)
  | 0x9 => some (.immediate .eorImm)
  | 0xA => some (.implied .lsrA)
  | 0xB => some (.immediate .alrImm)
  | 0xC => some (.word .jmpAbs)
  | 0xD => some (.word .eorAbs)
  | 0xE => some (.word .lsrAbs)
  | 0xF => some (.word .sreAbs)
  | _ => none

/-- Row 5x of the opcode map (rule R112). -/
def formRow5 (lo : Nat) : Option Form :=
  match lo with
  | 0x0 => some (.byte .bvc)
  | 0x1 => some (.byte .eorIndY)
  | 0x2 => some (.implied .kil52)
  | 0x3 => some (.byte .sreIndY)
  | 0x4 => some (.byte .nop54ZpX)
  | 0x5 => some (.byte .eorZpX)
  | 0x6 => some (.byte .lsrZpX)
  | 0x7 => some (.byte .sreZpX)
  | 0x8 => some (.implied .cli)
  | 0x9 => some (.word .eorAbsY)
  | 0xA => some (.implied .nop5A)
  | 0xB => some (.word .sreAbsY)
  | 0xC => some (.word .nop5CAbsX)
  | 0xD => some (.word .eorAbsX)
  | 0xE => some (.word .lsrAbsX)
  | 0xF => some (.word .sreAbsX)
  | _ => none

/-- Row 6x of the opcode map (rule R112). -/
def formRow6 (lo : Nat) : Option Form :=
  match lo with
  | 0x0 => some (.implied .rts)
  | 0x1 => some (.byte .adcIndX)
  | 0x2 => some (.implied .kil62)
  | 0x3 => some (.byte .rraIndX)
  | 0x4 => some (.byte .nop64Zp)
  | 0x5 => some (.byte .adcZp)
  | 0x6 => some (.byte .rorZp)
  | 0x7 => some (.byte .rraZp)
  | 0x8 => some (.implied .pla)
  | 0x9 => some (.immediate .adcImm)
  | 0xA => some (.implied .rorA)
  | 0xB => some (.immediate .arrImm)
  | 0xC => some (.word .jmpInd)
  | 0xD => some (.word .adcAbs)
  | 0xE => some (.word .rorAbs)
  | 0xF => some (.word .rraAbs)
  | _ => none

/-- Row 7x of the opcode map (rule R112). -/
def formRow7 (lo : Nat) : Option Form :=
  match lo with
  | 0x0 => some (.byte .bvs)
  | 0x1 => some (.byte .adcIndY)
  | 0x2 => some (.implied .kil72)
  | 0x3 => some (.byte .rraIndY)
  | 0x4 => some (.byte .nop74ZpX)
  | 0x5 => some (.byte .adcZpX)
  | 0x6 => some (.byte .rorZpX)
  | 0x7 => some (.byte .rraZpX)
  | 0x8 => some (.implied .sei)
  | 0x9 => some (.word .adcAbsY)
  | 0xA => some (.implied .nop7A)
  | 0xB => some (.word .rraAbsY)
  | 0xC => some (.word .nop7CAbsX)
  | 0xD => some (.word .adcAbsX)
  | 0xE => some (.word .rorAbsX)
  | 0xF => some (.word .rraAbsX)
  | _ => none

/-- Row 8x of the opcode map (rule R112). -/
def formRow8 (lo : Nat) : Option Form :=
  match lo with
  | 0x0 => some (.immediate .nop80Imm)
  | 0x1 => some (.byte .staIndX)
  | 0x2 => some (.immediate .nop82Imm)
  | 0x3 => some (.byte .saxIndX)
  | 0x4 => some (.byte .styZp)
  | 0x5 => some (.byte .staZp)
  | 0x6 => some (.byte .stxZp)
  | 0x7 => some (.byte .saxZp)
  | 0x8 => some (.implied .dey)
  | 0x9 => some (.immediate .nop89Imm)
  | 0xA => some (.implied .txa)
  | 0xB => some (.immediate .xaaImm)
  | 0xC => some (.word .styAbs)
  | 0xD => some (.word .staAbs)
  | 0xE => some (.word .stxAbs)
  | 0xF => some (.word .saxAbs)
  | _ => none

/-- Row 9x of the opcode map (rule R112). -/
def formRow9 (lo : Nat) : Option Form :=
  match lo with
  | 0x0 => some (.byte .bcc)
  | 0x1 => some (.byte .staIndY)
  | 0x2 => some (.implied .kil92)
  | 0x3 => some (.byte .shaIndY)
  | 0x4 => some (.byte .styZpX)
  | 0x5 => some (.byte .staZpX)
  | 0x6 => some (.byte .stxZpY)
  | 0x7 => some (.byte .saxZpY)
  | 0x8 => some (.implied .tya)
  | 0x9 => some (.word .staAbsY)
  | 0xA => some (.implied .txs)
  | 0xB => some (.word .tasAbsY)
  | 0xC => some (.word .shyAbsX)
  | 0xD => some (.word .staAbsX)
  | 0xE => some (.word .shxAbsY)
  | 0xF => some (.word .shaAbsY)
  | _ => none

/-- Row Ax of the opcode map (rule R112). -/
def formRowA (lo : Nat) : Option Form :=
  match lo with
  | 0x0 => some (.immediate .ldyImm)
  | 0x1 => some (.byte .ldaIndX)
  | 0x2 => some (.immediate .ldxImm)
  | 0x3 => some (.byte .laxIndX)
  | 0x4 => some (.byte .ldyZp)
  | 0x5 => some (.byte .ldaZp)
  | 0x6 => some (.byte .ldxZp)
  | 0x7 => some (.byte .laxZp)
  | 0x8 => some (.implied .tay)
  | 0x9 => some (.immediate .ldaImm)
  | 0xA => some (.implied .tax)
  | 0xB => some (.immediate .lxaImm)
  | 0xC => some (.word .ldyAbs)
  | 0xD => some (.word .ldaAbs)
  | 0xE => some (.word .ldxAbs)
  | 0xF => some (.word .laxAbs)
  | _ => none

/-- Row Bx of the opcode map (rule R112). -/
def formRowB (lo : Nat) : Option Form :=
  match lo with
  | 0x0 => some (.byte .bcs)
  | 0x1 => some (.byte .ldaIndY)
  | 0x2 => some (.implied .kilB2)
  | 0x3 => some (.byte .laxIndY)
  | 0x4 => some (.byte .ldyZpX)
  | 0x5 => some (.byte .ldaZpX)
  | 0x6 => some (.byte .ldxZpY)
  | 0x7 => some (.byte .laxZpY)
  | 0x8 => some (.implied .clv)
  | 0x9 => some (.word .ldaAbsY)
  | 0xA => some (.implied .tsx)
  | 0xB => some (.word .lasAbsY)
  | 0xC => some (.word .ldyAbsX)
  | 0xD => some (.word .ldaAbsX)
  | 0xE => some (.word .ldxAbsY)
  | 0xF => some (.word .laxAbsY)
  | _ => none

/-- Row Cx of the opcode map (rule R112). -/
def formRowC (lo : Nat) : Option Form :=
  match lo with
  | 0x0 => some (.immediate .cpyImm)
  | 0x1 => some (.byte .cmpIndX)
  | 0x2 => some (.immediate .nopC2Imm)
  | 0x3 => some (.byte .dcpIndX)
  | 0x4 => some (.byte .cpyZp)
  | 0x5 => some (.byte .cmpZp)
  | 0x6 => some (.byte .decZp)
  | 0x7 => some (.byte .dcpZp)
  | 0x8 => some (.implied .iny)
  | 0x9 => some (.immediate .cmpImm)
  | 0xA => some (.implied .dex)
  | 0xB => some (.immediate .axsImm)
  | 0xC => some (.word .cpyAbs)
  | 0xD => some (.word .cmpAbs)
  | 0xE => some (.word .decAbs)
  | 0xF => some (.word .dcpAbs)
  | _ => none

/-- Row Dx of the opcode map (rule R112). -/
def formRowD (lo : Nat) : Option Form :=
  match lo with
  | 0x0 => some (.byte .bne)
  | 0x1 => some (.byte .cmpIndY)
  | 0x2 => some (.implied .kilD2)
  | 0x3 => some (.byte .dcpIndY)
  | 0x4 => some (.byte .nopD4ZpX)
  | 0x5 => some (.byte .cmpZpX)
  | 0x6 => some (.byte .decZpX)
  | 0x7 => some (.byte .dcpZpX)
  | 0x8 => some (.implied .cld)
  | 0x9 => some (.word .cmpAbsY)
  | 0xA => some (.implied .nopDA)
  | 0xB => some (.word .dcpAbsY)
  | 0xC => some (.word .nopDCAbsX)
  | 0xD => some (.word .cmpAbsX)
  | 0xE => some (.word .decAbsX)
  | 0xF => some (.word .dcpAbsX)
  | _ => none

/-- Row Ex of the opcode map (rule R112). -/
def formRowE (lo : Nat) : Option Form :=
  match lo with
  | 0x0 => some (.immediate .cpxImm)
  | 0x1 => some (.byte .sbcIndX)
  | 0x2 => some (.immediate .nopE2Imm)
  | 0x3 => some (.byte .isbIndX)
  | 0x4 => some (.byte .cpxZp)
  | 0x5 => some (.byte .sbcZp)
  | 0x6 => some (.byte .incZp)
  | 0x7 => some (.byte .isbZp)
  | 0x8 => some (.implied .inx)
  | 0x9 => some (.immediate .sbcImm)
  | 0xA => some (.implied .nopEA)
  | 0xB => some (.immediate .sbcEBImm)
  | 0xC => some (.word .cpxAbs)
  | 0xD => some (.word .sbcAbs)
  | 0xE => some (.word .incAbs)
  | 0xF => some (.word .isbAbs)
  | _ => none

/-- Row Fx of the opcode map (rule R112). -/
def formRowF (lo : Nat) : Option Form :=
  match lo with
  | 0x0 => some (.byte .beq)
  | 0x1 => some (.byte .sbcIndY)
  | 0x2 => some (.implied .kilF2)
  | 0x3 => some (.byte .isbIndY)
  | 0x4 => some (.byte .nopF4ZpX)
  | 0x5 => some (.byte .sbcZpX)
  | 0x6 => some (.byte .incZpX)
  | 0x7 => some (.byte .isbZpX)
  | 0x8 => some (.implied .sed)
  | 0x9 => some (.word .sbcAbsY)
  | 0xA => some (.implied .nopFA)
  | 0xB => some (.word .isbAbsY)
  | 0xC => some (.word .nopFCAbsX)
  | 0xD => some (.word .sbcAbsX)
  | 0xE => some (.word .incAbsX)
  | 0xF => some (.word .isbAbsX)
  | _ => none

/-- The Opcode Table by opcode byte `0xhl`: row `h`, column `l` of the map (rules R92, R112). `none` would be a byte absent
from the table; there is no such byte (rule R96). -/
def form (op : Byte) : Option Form :=
  match op.toNat / 16 with
  | 0x0 => formRow0 (op.toNat % 16)
  | 0x1 => formRow1 (op.toNat % 16)
  | 0x2 => formRow2 (op.toNat % 16)
  | 0x3 => formRow3 (op.toNat % 16)
  | 0x4 => formRow4 (op.toNat % 16)
  | 0x5 => formRow5 (op.toNat % 16)
  | 0x6 => formRow6 (op.toNat % 16)
  | 0x7 => formRow7 (op.toNat % 16)
  | 0x8 => formRow8 (op.toNat % 16)
  | 0x9 => formRow9 (op.toNat % 16)
  | 0xA => formRowA (op.toNat % 16)
  | 0xB => formRowB (op.toNat % 16)
  | 0xC => formRowC (op.toNat % 16)
  | 0xD => formRowD (op.toNat % 16)
  | 0xE => formRowE (op.toNat % 16)
  | 0xF => formRowF (op.toNat % 16)
  | _ => none

/-- Why bytes do not decode. -/
inductive DecodeError where
  /-- The bytes end before the instruction does. -/
  | truncated
  /-- The opcode byte is absent from the table (rule R313); never the case (rule R96). -/
  | unknownOpcode (op : Byte)
  deriving DecidableEq, Repr

/-- What the decoder answers: an instruction and the bytes after it, or a rejection by name. -/
inductive Decoded where
  | instr (i : Instr) (rest : List Byte)
  | rejected (e : DecodeError)
  deriving DecidableEq, Repr

/-- Decode the operand bytes of a form; a word is little-endian (rules R59, R90). -/
def decodeOperand (f : Form) (bytes : List Byte) : Decoded :=
  match f, bytes with
  | .implied i, rest => .instr i rest
  | .immediate k, b :: rest => .instr (k b) rest
  | .byte k, b :: rest => .instr (k b) rest
  | .word k, l :: h :: rest => .instr (k (word16 h l)) rest
  | .immediate _, [] => .rejected .truncated
  | .byte _, [] => .rejected .truncated
  | .word _, [] => .rejected .truncated
  | .word _, [_] => .rejected .truncated

/-- Decode one instruction from the front of a byte list, total on any bytes (rules R90, R91, R96). -/
def decode (bytes : List Byte) : Decoded :=
  match bytes with
  | [] => .rejected .truncated
  | op :: rest =>
    match form op with
    | some f => decodeOperand f rest
    | none => .rejected (.unknownOpcode op)

/-- The seven unstable opcode bytes (rules R114, R279). -/
def isUnstable (op : Byte) : Bool :=
  op == 0x8B || op == 0xAB || op == 0x93 || op == 0x9F || op == 0x9B || op == 0x9C || op == 0x9E

/-- The operand bytes, in ascending address order (rules R59, R90). -/
def Operand.bytes (o : Operand) : List Byte :=
  match o with
  | .implied => []
  | .accumulator => []
  | .immediate b => [b]
  | .zeroPage z => [z]
  | .zeroPageX z => [z]
  | .zeroPageY z => [z]
  | .absolute a => [lo8 a, hi8 a]
  | .absoluteX a => [lo8 a, hi8 a]
  | .absoluteY a => [lo8 a, hi8 a]
  | .indirectX z => [z]
  | .indirectY z => [z]
  | .relative r => [r]
  | .target a => [lo8 a, hi8 a]
  | .indirectTarget a => [lo8 a, hi8 a]

/-- How many operand bytes there are: the instruction's length less one (rule R91). -/
def Operand.size (o : Operand) : Addr :=
  match o with
  | .implied => 0
  | .accumulator => 0
  | .immediate _ => 1
  | .zeroPage _ => 1
  | .zeroPageX _ => 1
  | .zeroPageY _ => 1
  | .absolute _ => 2
  | .absoluteX _ => 2
  | .absoluteY _ => 2
  | .indirectX _ => 1
  | .indirectY _ => 1
  | .relative _ => 1
  | .target _ => 2
  | .indirectTarget _ => 2

/-- The addressing mode the table gives an operand form (rule R93). -/
def Operand.mode (o : Operand) : AddrMode :=
  match o with
  | .implied => .noneAddressing
  | .accumulator => .noneAddressing
  | .immediate _ => .immediate
  | .zeroPage _ => .zeroPage
  | .zeroPageX _ => .zeroPageX
  | .zeroPageY _ => .zeroPageY
  | .absolute _ => .absolute
  | .absoluteX _ => .absoluteX
  | .absoluteY _ => .absoluteY
  | .indirectX _ => .indirectX
  | .indirectY _ => .indirectY
  | .relative _ => .noneAddressing
  | .target _ => .noneAddressing
  | .indirectTarget _ => .noneAddressing

/-- An Opcode Table entry (rules R35, R92) of an instruction, with its operand. The base cycle count is metadata that
nothing reads (rule R351), and KIL has none (D24). -/
structure Row where
  opcode : Byte
  mnemonic : Mnemonic
  operand : Operand
  baseCycles : Option Nat
  deriving DecidableEq, Repr

/-- The Opcode Table by instruction (rules R92, R112). -/
def Instr.row (i : Instr) : Row :=
  match i with
  | .brk => ⟨0x00, .BRK, .implied, (some 7)⟩
  | .oraIndX z => ⟨0x01, .ORA, (.indirectX z), (some 6)⟩
  | .kil02 => ⟨0x02, .KIL, .implied, none⟩
  | .sloIndX z => ⟨0x03, .SLO, (.indirectX z), (some 8)⟩
  | .nop04Zp z => ⟨0x04, .NOP, (.zeroPage z), (some 3)⟩
  | .oraZp z => ⟨0x05, .ORA, (.zeroPage z), (some 3)⟩
  | .aslZp z => ⟨0x06, .ASL, (.zeroPage z), (some 5)⟩
  | .sloZp z => ⟨0x07, .SLO, (.zeroPage z), (some 5)⟩
  | .php => ⟨0x08, .PHP, .implied, (some 3)⟩
  | .oraImm b => ⟨0x09, .ORA, (.immediate b), (some 2)⟩
  | .aslA => ⟨0x0A, .ASL, .accumulator, (some 2)⟩
  | .anc0BImm b => ⟨0x0B, .ANC, (.immediate b), (some 2)⟩
  | .nop0CAbs a => ⟨0x0C, .NOP, (.absolute a), (some 4)⟩
  | .oraAbs a => ⟨0x0D, .ORA, (.absolute a), (some 4)⟩
  | .aslAbs a => ⟨0x0E, .ASL, (.absolute a), (some 6)⟩
  | .sloAbs a => ⟨0x0F, .SLO, (.absolute a), (some 6)⟩
  | .bpl r => ⟨0x10, .BPL, (.relative r), (some 2)⟩
  | .oraIndY z => ⟨0x11, .ORA, (.indirectY z), (some 5)⟩
  | .kil12 => ⟨0x12, .KIL, .implied, none⟩
  | .sloIndY z => ⟨0x13, .SLO, (.indirectY z), (some 8)⟩
  | .nop14ZpX z => ⟨0x14, .NOP, (.zeroPageX z), (some 4)⟩
  | .oraZpX z => ⟨0x15, .ORA, (.zeroPageX z), (some 4)⟩
  | .aslZpX z => ⟨0x16, .ASL, (.zeroPageX z), (some 6)⟩
  | .sloZpX z => ⟨0x17, .SLO, (.zeroPageX z), (some 6)⟩
  | .clc => ⟨0x18, .CLC, .implied, (some 2)⟩
  | .oraAbsY a => ⟨0x19, .ORA, (.absoluteY a), (some 4)⟩
  | .nop1A => ⟨0x1A, .NOP, .implied, (some 2)⟩
  | .sloAbsY a => ⟨0x1B, .SLO, (.absoluteY a), (some 7)⟩
  | .nop1CAbsX a => ⟨0x1C, .NOP, (.absoluteX a), (some 4)⟩
  | .oraAbsX a => ⟨0x1D, .ORA, (.absoluteX a), (some 4)⟩
  | .aslAbsX a => ⟨0x1E, .ASL, (.absoluteX a), (some 7)⟩
  | .sloAbsX a => ⟨0x1F, .SLO, (.absoluteX a), (some 7)⟩
  | .jsr a => ⟨0x20, .JSR, (.target a), (some 6)⟩
  | .andIndX z => ⟨0x21, .AND, (.indirectX z), (some 6)⟩
  | .kil22 => ⟨0x22, .KIL, .implied, none⟩
  | .rlaIndX z => ⟨0x23, .RLA, (.indirectX z), (some 8)⟩
  | .bitZp z => ⟨0x24, .BIT, (.zeroPage z), (some 3)⟩
  | .andZp z => ⟨0x25, .AND, (.zeroPage z), (some 3)⟩
  | .rolZp z => ⟨0x26, .ROL, (.zeroPage z), (some 5)⟩
  | .rlaZp z => ⟨0x27, .RLA, (.zeroPage z), (some 5)⟩
  | .plp => ⟨0x28, .PLP, .implied, (some 4)⟩
  | .andImm b => ⟨0x29, .AND, (.immediate b), (some 2)⟩
  | .rolA => ⟨0x2A, .ROL, .accumulator, (some 2)⟩
  | .anc2BImm b => ⟨0x2B, .ANC, (.immediate b), (some 2)⟩
  | .bitAbs a => ⟨0x2C, .BIT, (.absolute a), (some 4)⟩
  | .andAbs a => ⟨0x2D, .AND, (.absolute a), (some 4)⟩
  | .rolAbs a => ⟨0x2E, .ROL, (.absolute a), (some 6)⟩
  | .rlaAbs a => ⟨0x2F, .RLA, (.absolute a), (some 6)⟩
  | .bmi r => ⟨0x30, .BMI, (.relative r), (some 2)⟩
  | .andIndY z => ⟨0x31, .AND, (.indirectY z), (some 5)⟩
  | .kil32 => ⟨0x32, .KIL, .implied, none⟩
  | .rlaIndY z => ⟨0x33, .RLA, (.indirectY z), (some 8)⟩
  | .nop34ZpX z => ⟨0x34, .NOP, (.zeroPageX z), (some 4)⟩
  | .andZpX z => ⟨0x35, .AND, (.zeroPageX z), (some 4)⟩
  | .rolZpX z => ⟨0x36, .ROL, (.zeroPageX z), (some 6)⟩
  | .rlaZpX z => ⟨0x37, .RLA, (.zeroPageX z), (some 6)⟩
  | .sec => ⟨0x38, .SEC, .implied, (some 2)⟩
  | .andAbsY a => ⟨0x39, .AND, (.absoluteY a), (some 4)⟩
  | .nop3A => ⟨0x3A, .NOP, .implied, (some 2)⟩
  | .rlaAbsY a => ⟨0x3B, .RLA, (.absoluteY a), (some 7)⟩
  | .nop3CAbsX a => ⟨0x3C, .NOP, (.absoluteX a), (some 4)⟩
  | .andAbsX a => ⟨0x3D, .AND, (.absoluteX a), (some 4)⟩
  | .rolAbsX a => ⟨0x3E, .ROL, (.absoluteX a), (some 7)⟩
  | .rlaAbsX a => ⟨0x3F, .RLA, (.absoluteX a), (some 7)⟩
  | .rti => ⟨0x40, .RTI, .implied, (some 6)⟩
  | .eorIndX z => ⟨0x41, .EOR, (.indirectX z), (some 6)⟩
  | .kil42 => ⟨0x42, .KIL, .implied, none⟩
  | .sreIndX z => ⟨0x43, .SRE, (.indirectX z), (some 8)⟩
  | .nop44Zp z => ⟨0x44, .NOP, (.zeroPage z), (some 3)⟩
  | .eorZp z => ⟨0x45, .EOR, (.zeroPage z), (some 3)⟩
  | .lsrZp z => ⟨0x46, .LSR, (.zeroPage z), (some 5)⟩
  | .sreZp z => ⟨0x47, .SRE, (.zeroPage z), (some 5)⟩
  | .pha => ⟨0x48, .PHA, .implied, (some 3)⟩
  | .eorImm b => ⟨0x49, .EOR, (.immediate b), (some 2)⟩
  | .lsrA => ⟨0x4A, .LSR, .accumulator, (some 2)⟩
  | .alrImm b => ⟨0x4B, .ALR, (.immediate b), (some 2)⟩
  | .jmpAbs a => ⟨0x4C, .JMP, (.target a), (some 3)⟩
  | .eorAbs a => ⟨0x4D, .EOR, (.absolute a), (some 4)⟩
  | .lsrAbs a => ⟨0x4E, .LSR, (.absolute a), (some 6)⟩
  | .sreAbs a => ⟨0x4F, .SRE, (.absolute a), (some 6)⟩
  | .bvc r => ⟨0x50, .BVC, (.relative r), (some 2)⟩
  | .eorIndY z => ⟨0x51, .EOR, (.indirectY z), (some 5)⟩
  | .kil52 => ⟨0x52, .KIL, .implied, none⟩
  | .sreIndY z => ⟨0x53, .SRE, (.indirectY z), (some 8)⟩
  | .nop54ZpX z => ⟨0x54, .NOP, (.zeroPageX z), (some 4)⟩
  | .eorZpX z => ⟨0x55, .EOR, (.zeroPageX z), (some 4)⟩
  | .lsrZpX z => ⟨0x56, .LSR, (.zeroPageX z), (some 6)⟩
  | .sreZpX z => ⟨0x57, .SRE, (.zeroPageX z), (some 6)⟩
  | .cli => ⟨0x58, .CLI, .implied, (some 2)⟩
  | .eorAbsY a => ⟨0x59, .EOR, (.absoluteY a), (some 4)⟩
  | .nop5A => ⟨0x5A, .NOP, .implied, (some 2)⟩
  | .sreAbsY a => ⟨0x5B, .SRE, (.absoluteY a), (some 7)⟩
  | .nop5CAbsX a => ⟨0x5C, .NOP, (.absoluteX a), (some 4)⟩
  | .eorAbsX a => ⟨0x5D, .EOR, (.absoluteX a), (some 4)⟩
  | .lsrAbsX a => ⟨0x5E, .LSR, (.absoluteX a), (some 7)⟩
  | .sreAbsX a => ⟨0x5F, .SRE, (.absoluteX a), (some 7)⟩
  | .rts => ⟨0x60, .RTS, .implied, (some 6)⟩
  | .adcIndX z => ⟨0x61, .ADC, (.indirectX z), (some 6)⟩
  | .kil62 => ⟨0x62, .KIL, .implied, none⟩
  | .rraIndX z => ⟨0x63, .RRA, (.indirectX z), (some 8)⟩
  | .nop64Zp z => ⟨0x64, .NOP, (.zeroPage z), (some 3)⟩
  | .adcZp z => ⟨0x65, .ADC, (.zeroPage z), (some 3)⟩
  | .rorZp z => ⟨0x66, .ROR, (.zeroPage z), (some 5)⟩
  | .rraZp z => ⟨0x67, .RRA, (.zeroPage z), (some 5)⟩
  | .pla => ⟨0x68, .PLA, .implied, (some 4)⟩
  | .adcImm b => ⟨0x69, .ADC, (.immediate b), (some 2)⟩
  | .rorA => ⟨0x6A, .ROR, .accumulator, (some 2)⟩
  | .arrImm b => ⟨0x6B, .ARR, (.immediate b), (some 2)⟩
  | .jmpInd a => ⟨0x6C, .JMP, (.indirectTarget a), (some 5)⟩
  | .adcAbs a => ⟨0x6D, .ADC, (.absolute a), (some 4)⟩
  | .rorAbs a => ⟨0x6E, .ROR, (.absolute a), (some 6)⟩
  | .rraAbs a => ⟨0x6F, .RRA, (.absolute a), (some 6)⟩
  | .bvs r => ⟨0x70, .BVS, (.relative r), (some 2)⟩
  | .adcIndY z => ⟨0x71, .ADC, (.indirectY z), (some 5)⟩
  | .kil72 => ⟨0x72, .KIL, .implied, none⟩
  | .rraIndY z => ⟨0x73, .RRA, (.indirectY z), (some 8)⟩
  | .nop74ZpX z => ⟨0x74, .NOP, (.zeroPageX z), (some 4)⟩
  | .adcZpX z => ⟨0x75, .ADC, (.zeroPageX z), (some 4)⟩
  | .rorZpX z => ⟨0x76, .ROR, (.zeroPageX z), (some 6)⟩
  | .rraZpX z => ⟨0x77, .RRA, (.zeroPageX z), (some 6)⟩
  | .sei => ⟨0x78, .SEI, .implied, (some 2)⟩
  | .adcAbsY a => ⟨0x79, .ADC, (.absoluteY a), (some 4)⟩
  | .nop7A => ⟨0x7A, .NOP, .implied, (some 2)⟩
  | .rraAbsY a => ⟨0x7B, .RRA, (.absoluteY a), (some 7)⟩
  | .nop7CAbsX a => ⟨0x7C, .NOP, (.absoluteX a), (some 4)⟩
  | .adcAbsX a => ⟨0x7D, .ADC, (.absoluteX a), (some 4)⟩
  | .rorAbsX a => ⟨0x7E, .ROR, (.absoluteX a), (some 7)⟩
  | .rraAbsX a => ⟨0x7F, .RRA, (.absoluteX a), (some 7)⟩
  | .nop80Imm b => ⟨0x80, .NOP, (.immediate b), (some 2)⟩
  | .staIndX z => ⟨0x81, .STA, (.indirectX z), (some 6)⟩
  | .nop82Imm b => ⟨0x82, .NOP, (.immediate b), (some 2)⟩
  | .saxIndX z => ⟨0x83, .SAX, (.indirectX z), (some 6)⟩
  | .styZp z => ⟨0x84, .STY, (.zeroPage z), (some 3)⟩
  | .staZp z => ⟨0x85, .STA, (.zeroPage z), (some 3)⟩
  | .stxZp z => ⟨0x86, .STX, (.zeroPage z), (some 3)⟩
  | .saxZp z => ⟨0x87, .SAX, (.zeroPage z), (some 3)⟩
  | .dey => ⟨0x88, .DEY, .implied, (some 2)⟩
  | .nop89Imm b => ⟨0x89, .NOP, (.immediate b), (some 2)⟩
  | .txa => ⟨0x8A, .TXA, .implied, (some 2)⟩
  | .xaaImm b => ⟨0x8B, .XAA, (.immediate b), (some 2)⟩
  | .styAbs a => ⟨0x8C, .STY, (.absolute a), (some 4)⟩
  | .staAbs a => ⟨0x8D, .STA, (.absolute a), (some 4)⟩
  | .stxAbs a => ⟨0x8E, .STX, (.absolute a), (some 4)⟩
  | .saxAbs a => ⟨0x8F, .SAX, (.absolute a), (some 4)⟩
  | .bcc r => ⟨0x90, .BCC, (.relative r), (some 2)⟩
  | .staIndY z => ⟨0x91, .STA, (.indirectY z), (some 6)⟩
  | .kil92 => ⟨0x92, .KIL, .implied, none⟩
  | .shaIndY z => ⟨0x93, .SHA, (.indirectY z), (some 6)⟩
  | .styZpX z => ⟨0x94, .STY, (.zeroPageX z), (some 4)⟩
  | .staZpX z => ⟨0x95, .STA, (.zeroPageX z), (some 4)⟩
  | .stxZpY z => ⟨0x96, .STX, (.zeroPageY z), (some 4)⟩
  | .saxZpY z => ⟨0x97, .SAX, (.zeroPageY z), (some 4)⟩
  | .tya => ⟨0x98, .TYA, .implied, (some 2)⟩
  | .staAbsY a => ⟨0x99, .STA, (.absoluteY a), (some 5)⟩
  | .txs => ⟨0x9A, .TXS, .implied, (some 2)⟩
  | .tasAbsY a => ⟨0x9B, .TAS, (.absoluteY a), (some 5)⟩
  | .shyAbsX a => ⟨0x9C, .SHY, (.absoluteX a), (some 5)⟩
  | .staAbsX a => ⟨0x9D, .STA, (.absoluteX a), (some 5)⟩
  | .shxAbsY a => ⟨0x9E, .SHX, (.absoluteY a), (some 5)⟩
  | .shaAbsY a => ⟨0x9F, .SHA, (.absoluteY a), (some 5)⟩
  | .ldyImm b => ⟨0xA0, .LDY, (.immediate b), (some 2)⟩
  | .ldaIndX z => ⟨0xA1, .LDA, (.indirectX z), (some 6)⟩
  | .ldxImm b => ⟨0xA2, .LDX, (.immediate b), (some 2)⟩
  | .laxIndX z => ⟨0xA3, .LAX, (.indirectX z), (some 6)⟩
  | .ldyZp z => ⟨0xA4, .LDY, (.zeroPage z), (some 3)⟩
  | .ldaZp z => ⟨0xA5, .LDA, (.zeroPage z), (some 3)⟩
  | .ldxZp z => ⟨0xA6, .LDX, (.zeroPage z), (some 3)⟩
  | .laxZp z => ⟨0xA7, .LAX, (.zeroPage z), (some 3)⟩
  | .tay => ⟨0xA8, .TAY, .implied, (some 2)⟩
  | .ldaImm b => ⟨0xA9, .LDA, (.immediate b), (some 2)⟩
  | .tax => ⟨0xAA, .TAX, .implied, (some 2)⟩
  | .lxaImm b => ⟨0xAB, .LXA, (.immediate b), (some 2)⟩
  | .ldyAbs a => ⟨0xAC, .LDY, (.absolute a), (some 4)⟩
  | .ldaAbs a => ⟨0xAD, .LDA, (.absolute a), (some 4)⟩
  | .ldxAbs a => ⟨0xAE, .LDX, (.absolute a), (some 4)⟩
  | .laxAbs a => ⟨0xAF, .LAX, (.absolute a), (some 4)⟩
  | .bcs r => ⟨0xB0, .BCS, (.relative r), (some 2)⟩
  | .ldaIndY z => ⟨0xB1, .LDA, (.indirectY z), (some 5)⟩
  | .kilB2 => ⟨0xB2, .KIL, .implied, none⟩
  | .laxIndY z => ⟨0xB3, .LAX, (.indirectY z), (some 5)⟩
  | .ldyZpX z => ⟨0xB4, .LDY, (.zeroPageX z), (some 4)⟩
  | .ldaZpX z => ⟨0xB5, .LDA, (.zeroPageX z), (some 4)⟩
  | .ldxZpY z => ⟨0xB6, .LDX, (.zeroPageY z), (some 4)⟩
  | .laxZpY z => ⟨0xB7, .LAX, (.zeroPageY z), (some 4)⟩
  | .clv => ⟨0xB8, .CLV, .implied, (some 2)⟩
  | .ldaAbsY a => ⟨0xB9, .LDA, (.absoluteY a), (some 4)⟩
  | .tsx => ⟨0xBA, .TSX, .implied, (some 2)⟩
  | .lasAbsY a => ⟨0xBB, .LAS, (.absoluteY a), (some 4)⟩
  | .ldyAbsX a => ⟨0xBC, .LDY, (.absoluteX a), (some 4)⟩
  | .ldaAbsX a => ⟨0xBD, .LDA, (.absoluteX a), (some 4)⟩
  | .ldxAbsY a => ⟨0xBE, .LDX, (.absoluteY a), (some 4)⟩
  | .laxAbsY a => ⟨0xBF, .LAX, (.absoluteY a), (some 4)⟩
  | .cpyImm b => ⟨0xC0, .CPY, (.immediate b), (some 2)⟩
  | .cmpIndX z => ⟨0xC1, .CMP, (.indirectX z), (some 6)⟩
  | .nopC2Imm b => ⟨0xC2, .NOP, (.immediate b), (some 2)⟩
  | .dcpIndX z => ⟨0xC3, .DCP, (.indirectX z), (some 8)⟩
  | .cpyZp z => ⟨0xC4, .CPY, (.zeroPage z), (some 3)⟩
  | .cmpZp z => ⟨0xC5, .CMP, (.zeroPage z), (some 3)⟩
  | .decZp z => ⟨0xC6, .DEC, (.zeroPage z), (some 5)⟩
  | .dcpZp z => ⟨0xC7, .DCP, (.zeroPage z), (some 5)⟩
  | .iny => ⟨0xC8, .INY, .implied, (some 2)⟩
  | .cmpImm b => ⟨0xC9, .CMP, (.immediate b), (some 2)⟩
  | .dex => ⟨0xCA, .DEX, .implied, (some 2)⟩
  | .axsImm b => ⟨0xCB, .AXS, (.immediate b), (some 2)⟩
  | .cpyAbs a => ⟨0xCC, .CPY, (.absolute a), (some 4)⟩
  | .cmpAbs a => ⟨0xCD, .CMP, (.absolute a), (some 4)⟩
  | .decAbs a => ⟨0xCE, .DEC, (.absolute a), (some 6)⟩
  | .dcpAbs a => ⟨0xCF, .DCP, (.absolute a), (some 6)⟩
  | .bne r => ⟨0xD0, .BNE, (.relative r), (some 2)⟩
  | .cmpIndY z => ⟨0xD1, .CMP, (.indirectY z), (some 5)⟩
  | .kilD2 => ⟨0xD2, .KIL, .implied, none⟩
  | .dcpIndY z => ⟨0xD3, .DCP, (.indirectY z), (some 8)⟩
  | .nopD4ZpX z => ⟨0xD4, .NOP, (.zeroPageX z), (some 4)⟩
  | .cmpZpX z => ⟨0xD5, .CMP, (.zeroPageX z), (some 4)⟩
  | .decZpX z => ⟨0xD6, .DEC, (.zeroPageX z), (some 6)⟩
  | .dcpZpX z => ⟨0xD7, .DCP, (.zeroPageX z), (some 6)⟩
  | .cld => ⟨0xD8, .CLD, .implied, (some 2)⟩
  | .cmpAbsY a => ⟨0xD9, .CMP, (.absoluteY a), (some 4)⟩
  | .nopDA => ⟨0xDA, .NOP, .implied, (some 2)⟩
  | .dcpAbsY a => ⟨0xDB, .DCP, (.absoluteY a), (some 7)⟩
  | .nopDCAbsX a => ⟨0xDC, .NOP, (.absoluteX a), (some 4)⟩
  | .cmpAbsX a => ⟨0xDD, .CMP, (.absoluteX a), (some 4)⟩
  | .decAbsX a => ⟨0xDE, .DEC, (.absoluteX a), (some 7)⟩
  | .dcpAbsX a => ⟨0xDF, .DCP, (.absoluteX a), (some 7)⟩
  | .cpxImm b => ⟨0xE0, .CPX, (.immediate b), (some 2)⟩
  | .sbcIndX z => ⟨0xE1, .SBC, (.indirectX z), (some 6)⟩
  | .nopE2Imm b => ⟨0xE2, .NOP, (.immediate b), (some 2)⟩
  | .isbIndX z => ⟨0xE3, .ISB, (.indirectX z), (some 8)⟩
  | .cpxZp z => ⟨0xE4, .CPX, (.zeroPage z), (some 3)⟩
  | .sbcZp z => ⟨0xE5, .SBC, (.zeroPage z), (some 3)⟩
  | .incZp z => ⟨0xE6, .INC, (.zeroPage z), (some 5)⟩
  | .isbZp z => ⟨0xE7, .ISB, (.zeroPage z), (some 5)⟩
  | .inx => ⟨0xE8, .INX, .implied, (some 2)⟩
  | .sbcImm b => ⟨0xE9, .SBC, (.immediate b), (some 2)⟩
  | .nopEA => ⟨0xEA, .NOP, .implied, (some 2)⟩
  | .sbcEBImm b => ⟨0xEB, .SBC, (.immediate b), (some 2)⟩
  | .cpxAbs a => ⟨0xEC, .CPX, (.absolute a), (some 4)⟩
  | .sbcAbs a => ⟨0xED, .SBC, (.absolute a), (some 4)⟩
  | .incAbs a => ⟨0xEE, .INC, (.absolute a), (some 6)⟩
  | .isbAbs a => ⟨0xEF, .ISB, (.absolute a), (some 6)⟩
  | .beq r => ⟨0xF0, .BEQ, (.relative r), (some 2)⟩
  | .sbcIndY z => ⟨0xF1, .SBC, (.indirectY z), (some 5)⟩
  | .kilF2 => ⟨0xF2, .KIL, .implied, none⟩
  | .isbIndY z => ⟨0xF3, .ISB, (.indirectY z), (some 8)⟩
  | .nopF4ZpX z => ⟨0xF4, .NOP, (.zeroPageX z), (some 4)⟩
  | .sbcZpX z => ⟨0xF5, .SBC, (.zeroPageX z), (some 4)⟩
  | .incZpX z => ⟨0xF6, .INC, (.zeroPageX z), (some 6)⟩
  | .isbZpX z => ⟨0xF7, .ISB, (.zeroPageX z), (some 6)⟩
  | .sed => ⟨0xF8, .SED, .implied, (some 2)⟩
  | .sbcAbsY a => ⟨0xF9, .SBC, (.absoluteY a), (some 4)⟩
  | .nopFA => ⟨0xFA, .NOP, .implied, (some 2)⟩
  | .isbAbsY a => ⟨0xFB, .ISB, (.absoluteY a), (some 7)⟩
  | .nopFCAbsX a => ⟨0xFC, .NOP, (.absoluteX a), (some 4)⟩
  | .sbcAbsX a => ⟨0xFD, .SBC, (.absoluteX a), (some 4)⟩
  | .incAbsX a => ⟨0xFE, .INC, (.absoluteX a), (some 7)⟩
  | .isbAbsX a => ⟨0xFF, .ISB, (.absoluteX a), (some 7)⟩

/-- The opcode byte of an instruction. -/
def Instr.opcode (i : Instr) : Byte := i.row.opcode

/-- The mnemonic of an instruction. -/
def Instr.mnemonic (i : Instr) : Mnemonic := i.row.mnemonic

/-- The operand of an instruction. -/
def Instr.operand (i : Instr) : Operand := i.row.operand

/-- The byte length of an instruction, 1 to 3 (rules R90, R91). -/
def Instr.length (i : Instr) : Nat := i.operand.size.toNat + 1

/-- The encoding of an instruction: its opcode byte, then its operand bytes (rule R90). -/
def encode (i : Instr) : List Byte := i.opcode :: i.operand.bytes

/-- The first three bytes of the bits `w` of a table row, bit 0 the least significant bit of the first byte; every bit
from `nbits` up is 0. Three bytes is the longest instruction (rule R90). -/
def tableBytes (nbits w : Nat) : List Byte :=
  let v := w % 2 ^ nbits
  [BitVec.ofNat 8 v, BitVec.ofNat 8 (v / 256), BitVec.ofNat 8 (v / 65536)]

/-- The instruction the decoder reads from a table row's bits. -/
def decodeTableWord (nbits w : Nat) : Option Instr :=
  match decode (tableBytes nbits w) with
  | .instr i _ => some i
  | .rejected _ => none

end Sys2Proof
end

