-- ==== Sys2Proof/WellFormed.lean ====
section
/-! DEFINITION. Which terms are well-formed: instruction terms (all of them) and cartridge program images. -/

namespace Sys2Proof

/-- Every instruction term has an encoding: a constructor is one opcode byte, and its operand fields are exactly the operand
bytes of that byte's format (rules R90, R112), so no check is left. -/
def Instr.wellFormed (_ : Instr) : Bool := true

/-- A cartridge program image is 16384 or 32768 bytes long; "any other length is refused at construction" (D3, rule R340). -/
def imageWellFormed (image : List Byte) : Bool := image.length == 16384 || image.length == 32768

end Sys2Proof
end

