-- ==== Sys2Proof/Machine/Ops.lean ====
section
/-! DEFINITION. The shared operations: memory arrays, the Bus (spec/20_memory.md), the stack (rules R28 to R31), and the ways
an instruction ends (rules R97, R311, R320). -/

namespace Sys2Proof.Machine

/-- What a step and a meaning answer. -/
abbrev Result := Host.Outcome State Fault Refusal

/-! ### Memory arrays -/

/-- What a byte that nothing has written reads as. DESIGN CHOICE 0x00, unsafe: RAM's contents at construction and the
cartridge image are parameters (D2, D3, assumption log 3, 4). -/
def unlistedByte : Byte := 0x00

/-- Read one byte of a memory array. -/
def Memory.get (m : Memory) (i : Nat) : Byte :=
  match m with
  | [] => unlistedByte
  | (j, v) :: rest => if j = i then v else Memory.get rest i

/-- Put one entry at the front of an array whose indexes are all higher, if it must be listed at all. -/
def Memory.cons (i : Nat) (v : Byte) (m : Memory) : Memory :=
  if v = unlistedByte then m else (i, v) :: m

/-- Write one byte of a memory array, keeping its canonical form. -/
def Memory.set (m : Memory) (i : Nat) (v : Byte) : Memory :=
  match m with
  | [] => Memory.cons i v []
  | (j, w) :: rest =>
    if j < i then (j, w) :: Memory.set rest i v
    else if j = i then Memory.cons i v rest
    else Memory.cons i v ((j, w) :: rest)

/-- The canonical form from index `lo` up: indexes strictly rising, no entry equal to an unlisted byte. -/
def Memory.wfFrom (lo : Nat) (m : Memory) : Bool :=
  match m with
  | [] => true
  | (i, v) :: rest => decide (lo ≤ i) && (v != unlistedByte) && Memory.wfFrom (i + 1) rest

/-- The canonical form of a memory array. -/
def Memory.wf (m : Memory) : Bool := Memory.wfFrom 0 m

/-- Every listed index is below the array's length. -/
def Memory.below (n : Nat) (m : Memory) : Bool := m.all (fun c => decide (c.1 < n))

/-- The array of consecutive bytes from index `i` up. -/
def Memory.ofBytes (i : Nat) (bytes : List Byte) : Memory :=
  match bytes with
  | [] => []
  | v :: rest => Memory.cons i v (Memory.ofBytes (i + 1) rest)

/-- The length of RAM in bytes (rules R7, R38). -/
def ramLength : Nat := 2048

/-- The length of the image in bytes (rule R57). -/
def PrgSize.length (z : PrgSize) : Nat :=
  match z with
  | .kib16 => 16384
  | .kib32 => 32768

/-! ### Address decoding -/

/-- The eight PPU registers (rule R55). -/
inductive PpuReg where
  | control | mask | status | oamAddress | oamData | scroll | address | data
  deriving DecidableEq, Repr

/-- What an address decodes to (rule R52). -/
inductive BusTarget where
  | ram (i : Nat)
  | ppu (r : PpuReg)
  | prg (i : Nat)
  | unmapped
  deriving DecidableEq, Repr

/-- The register at `0x2000 + n` (rule R55). -/
def ppuRegOf (n : Nat) : PpuReg :=
  match n with
  | 0 => .control
  | 1 => .mask
  | 2 => .status
  | 3 => .oamAddress
  | 4 => .oamData
  | 5 => .scroll
  | 6 => .address
  | _ => .data

/-- `prg_index(addr)` (rule R57). -/
def prgIndex (z : PrgSize) (addr : Addr) : Nat :=
  let i := addr.toNat - 0x8000
  match z with
  | .kib16 => i % 0x4000
  | .kib32 => i

/-- The decoding table of rule R52, first match wins. The mirrors of rule R54 select the register of `addr & 0x2007`, whose
low three bits are its place after 0x2000. -/
def busDecode (z : PrgSize) (addr : Addr) : BusTarget :=
  if addr.toNat < 0x2000 then .ram (addr &&& 0x07FF).toNat
  else if addr.toNat < 0x4000 then .ppu (ppuRegOf (addr &&& 0x0007).toNat)
  else if 0x8000 ≤ addr.toNat then .prg (prgIndex z addr)
  else .unmapped

/-- The call a read of a PPU register relays; `none` for a write-only register (rule R55). -/
def PpuReg.readCall (r : PpuReg) : Option PpuCall :=
  match r with
  | .status => some .readStatus
  | .oamData => some .readOamData
  | .data => some .readData
  | .control => none
  | .mask => none
  | .oamAddress => none
  | .scroll => none
  | .address => none

/-- The call a write of a PPU register relays; `none` for the status register (rule R55). -/
def PpuReg.writeCall (r : PpuReg) (v : Byte) : Option PpuCall :=
  match r with
  | .control => some (.writeControl v)
  | .mask => some (.writeMask v)
  | .status => none
  | .oamAddress => some (.setOamAddress v)
  | .oamData => some (.writeOamData v)
  | .scroll => some (.writeScroll v)
  | .address => some (.writeAddress v)
  | .data => some (.writeData v)

/-! ### Bus accesses -/

/-- A fatal error of one access, before the instruction's address and opcode are put into its record (rule R311). The
history ends with the faulting access (assumption log 14). -/
structure BusFault where
  kind : FatalKind
  addr : Addr
  access : Option AccessKind
  history : List BusEvent
  deriving DecidableEq, Repr

/-- Append one event to the history (rule R74). -/
def State.log (s : State) (k : AccessKind) (addr : Addr) (v : Option Byte) (call : Option PpuCall) : State :=
  { s with history := s.history ++ [{ kind := k, addr := addr, value := v, call := call }] }

/-- The PPU oracle's answer to a call: the next one it has ready, else a free value (rule R56, assumption log 8, 9). -/
def State.ppuAnswer (s : State) (call : PpuCall) : PpuAnswer :=
  match s.ppuScript with
  | answer :: _ => answer
  | [] => Config.ppuOracle s.history call

/-- The state after the oracle has answered. -/
def State.afterAnswer (s : State) : State := { s with ppuScript := s.ppuScript.tail }

/-- `read8(addr)` (rules R12, R52): the byte and the state with the access in its history, or a fatal error. -/
def read8 (k : AccessKind) (addr : Addr) (s : State) : Except BusFault (Byte × State) :=
  match busDecode s.prgSize addr with
  | .ram i => .ok (Memory.get s.ram i, s.log k addr (some (Memory.get s.ram i)) none)
  | .prg i => .ok (Memory.get s.prg i, s.log k addr (some (Memory.get s.prg i)) none)
  | .unmapped => .ok (0x00, s.log k addr (some 0x00) none)
  | .ppu r =>
    match r.readCall with
    | none => .error ⟨.writeOnlyRead, addr, some k, (s.log k addr none none).history⟩
    | some call =>
      match s.ppuAnswer call with
      | .done v => .ok (v, s.afterAnswer.log k addr (some v) (some call))
      | .fault => .error ⟨.ppuFault, addr, some k, (s.log k addr none (some call)).history⟩

/-- `write8(addr, v)` (rules R12, R52): the state with the access made and in its history, or a fatal error. -/
def write8 (k : AccessKind) (addr : Addr) (v : Byte) (s : State) : Except BusFault State :=
  match busDecode s.prgSize addr with
  | .ram i => .ok (State.log { s with ram := Memory.set s.ram i v } k addr (some v) none)
  | .prg _ => .error ⟨.romWrite, addr, some k, (s.log k addr (some v) none).history⟩
  | .unmapped => .ok (s.log k addr (some v) none)
  | .ppu r =>
    match r.writeCall v with
    | none => .error ⟨.ppuStatusWrite, addr, some k, (s.log k addr (some v) none).history⟩
    | some call =>
      match s.ppuAnswer call with
      | .done _ => .ok (s.afterAnswer.log k addr (some v) (some call))
      | .fault => .error ⟨.ppuFault, addr, some k, (s.log k addr (some v) (some call)).history⟩

/-- `read16(addr)`: low byte first, `addr + 1` wrapping (rule R61). -/
def read16 (k : AccessKind) (addr : Addr) (s : State) : Except BusFault (Addr × State) := do
  let (lo, s) ← read8 k addr s
  let (hi, s) ← read8 k (addr + 1) s
  .ok (word16 hi lo, s)

/-- `zext_16(b)` (rule R10): a zero-page byte as an address. -/
def zext16 (b : Byte) : Addr := b.setWidth 16

/-- `sext_16(b)` (rule R10). -/
def sext16 (b : Byte) : Addr := b.signExtend 16

/-- `read16_zp(z)`: the high byte from `u8(z + 1)` (rule R62). -/
def read16zp (z : Byte) (s : State) : Except BusFault (Addr × State) := do
  let (lo, s) ← read8 .pointer (zext16 z) s
  let (hi, s) ← read8 .pointer (zext16 (z + 1)) s
  .ok (word16 hi lo, s)

/-- What an observer sees at an address, with no bus event: RAM, PRG and the 0x00 of unmapped lines, and nothing of the PPU
(rule R322, D23). It is the model's read of one byte. -/
def State.peek (s : State) (addr : Addr) : Option Byte :=
  match busDecode s.prgSize addr with
  | .ram i => some (Memory.get s.ram i)
  | .prg i => some (Memory.get s.prg i)
  | .unmapped => some 0x00
  | .ppu _ => none

/-! ### The stack -/

/-- The stack address for a stack pointer, `0x0100 | SP` (rule R26). -/
def stackAddr (sp : Byte) : Addr := 0x0100 ||| zext16 sp

/-- `push8(v)` (rule R28). -/
def push8 (v : Byte) (s : State) : Except BusFault State := do
  let s ← write8 .stackWrite (stackAddr s.sp) v s
  .ok { s with sp := s.sp - 1 }

/-- `pop8()` (rule R29). -/
def pop8 (s : State) : Except BusFault (Byte × State) :=
  read8 .stackRead (stackAddr (s.sp + 1)) { s with sp := s.sp + 1 }

/-- `push16(v)`, high byte first (rule R30). -/
def push16 (v : Addr) (s : State) : Except BusFault State := do
  let s ← push8 (hi8 v) s
  push8 (lo8 v) s

/-- `pop16()`, low byte first (rule R31). -/
def pop16 (s : State) : Except BusFault (Addr × State) := do
  let (lo, s) ← pop8 s
  let (hi, s) ← pop8 s
  .ok (word16 hi lo, s)

/-! ### How an instruction ends -/

/-- The fault of a kind with its record and history (rule R312). -/
def Fault.ofKind (k : FatalKind) (r : FatalRecord) (h : List BusEvent) : Fault :=
  match k with
  | .unknownOpcode => .unknownOpcode r h
  | .noneAddressingResolved => .noneAddressingResolved r h
  | .writeOnlyRead => .writeOnlyRead r h
  | .ppuStatusWrite => .ppuStatusWrite r h
  | .romWrite => .romWrite r h
  | .ppuFault => .ppuFault r h

/-- The kind of a fault (rule R312). -/
def Fault.kind (f : Fault) : FatalKind :=
  match f with
  | .unknownOpcode _ _ => .unknownOpcode
  | .noneAddressingResolved _ _ => .noneAddressingResolved
  | .writeOnlyRead _ _ => .writeOnlyRead
  | .ppuStatusWrite _ _ => .ppuStatusWrite
  | .romWrite _ _ => .romWrite
  | .ppuFault _ _ => .ppuFault

/-- The record of a fault (rule R311). -/
def Fault.record (f : Fault) : FatalRecord :=
  match f with
  | .unknownOpcode r _ => r
  | .noneAddressingResolved r _ => r
  | .writeOnlyRead r _ => r
  | .ppuStatusWrite r _ => r
  | .romWrite r _ => r
  | .ppuFault r _ => r

/-- The history a fault leaves (rule R311). -/
def Fault.history (f : Fault) : List BusEvent :=
  match f with
  | .unknownOpcode _ h => h
  | .noneAddressingResolved _ h => h
  | .writeOnlyRead _ h => h
  | .ppuStatusWrite _ h => h
  | .romWrite _ h => h
  | .ppuFault _ h => h

/-- The code of a fatal kind (rule R312). -/
def FatalKind.code (k : FatalKind) : Byte :=
  match k with
  | .unknownOpcode => 1
  | .noneAddressingResolved => 2
  | .writeOnlyRead => 3
  | .ppuStatusWrite => 4
  | .romWrite => 5
  | .ppuFault => 6

/-- `raise Fatal(kind, info)` (rules R12, R311): end the run with the record of the faulting access, for the instruction at
`opaddr`. -/
def raiseFatal (opaddr : Addr) (opcode : Option Byte) (f : BusFault) : Result :=
  .fault (Fault.ofKind f.kind { opaddr := opaddr, opcode := opcode, addr := f.addr, access := f.access } f.history)

/-- `halt(reason)`: end the run normally, in the state as it is (rule R320). -/
def halt (reason : HaltReason) (s : State) : Result := .next { s with status := .halted reason }

/-- How the instruction of opcode byte `op` ends, its body begun in `s` and answering `r`: the next state, or a fatal error
named by the instruction's address, which is `PC - 1` during the body (rules R27, R95, R311). -/
def complete (op : Byte) (s : State) (r : Except BusFault State) : Result :=
  match r with
  | .ok t => .next t
  | .error f => raiseFatal (s.pc - 1) (some op) f

/-- The generic advance past `n` operand bytes (rule R97). -/
def State.advance (s : State) (n : Addr) : State := { s with pc := s.pc + n }

end Sys2Proof.Machine
end

