-- ==== Sys2Proof/Machine/Operands.lean ====
section
/-! DEFINITION. Effective-address resolution (rules R99 to R108) and the three ways an instruction uses an operand: it reads
it, stores to it, or reads, modifies and writes it (rule R111). In all of it `PC` is the address of the first operand byte
and the operand bytes have been read (Machine/Fetch.lean). -/

namespace Sys2Proof.Machine

/-- The 16-bit base of an effective address, before the index that is added to it in 16 bits (rules R99 to R107). A zero-page
index is added in 8 bits here; the pointer bytes of the indirect modes are bus reads. -/
def resolveBase (o : Operand) (s : State) : Except BusFault (Addr × State) :=
  match o with
  | .immediate _ => .ok (s.pc, s)
  | .zeroPage z => .ok (zext16 z, s)
  | .zeroPageX z => .ok (zext16 (z + s.x), s)
  | .zeroPageY z => .ok (zext16 (z + s.y), s)
  | .absolute a => .ok (a, s)
  | .absoluteX a => .ok (a, s)
  | .absoluteY a => .ok (a, s)
  | .indirectX z => read16zp (z + s.x) s
  | .indirectY z => read16zp z s
  | .implied => .error ⟨.noneAddressingResolved, s.pc - 1, none, s.history⟩
  | .accumulator => .error ⟨.noneAddressingResolved, s.pc - 1, none, s.history⟩
  | .relative _ => .error ⟨.noneAddressingResolved, s.pc - 1, none, s.history⟩
  | .target _ => .error ⟨.noneAddressingResolved, s.pc - 1, none, s.history⟩
  | .indirectTarget _ => .error ⟨.noneAddressingResolved, s.pc - 1, none, s.history⟩

/-- The index added in 16 bits to the base (rules R104, R105, R107). -/
def indexOf (o : Operand) (s : State) : Addr :=
  match o with
  | .absoluteX _ => zext16 s.x
  | .absoluteY _ => zext16 s.y
  | .indirectY _ => zext16 s.y
  | .immediate _ => 0
  | .zeroPage _ => 0
  | .zeroPageX _ => 0
  | .zeroPageY _ => 0
  | .absolute _ => 0
  | .indirectX _ => 0
  | .implied => 0
  | .accumulator => 0
  | .relative _ => 0
  | .target _ => 0
  | .indirectTarget _ => 0

/-- `EA <- resolve(mode)` (rules R95, R99 to R107). -/
def resolve (o : Operand) (s : State) : Except BusFault (Addr × State) := do
  let (base, s) ← resolveBase o s
  .ok (base + indexOf o s, s)

/-- `M`: the byte an instruction reads. An immediate byte was read when the instruction was fetched (rule R99, assumption
log 13); any other is `read8(EA)` (rule R13). -/
def readOperand (o : Operand) (s : State) : Except BusFault (Byte × State) :=
  match o with
  | .immediate b => .ok (b, s)
  | _ => do
    let (ea, s) ← resolve o s
    read8 .dataRead ea s

/-- A reading instruction: `M <- read8(EA)`, then its effect, then the generic advance (rules R97, R111). -/
def readInstr (op : Byte) (o : Operand) (effect : Byte → State → State) (s : State) : Result :=
  complete op s (do
    let (m, s) ← readOperand o s
    .ok ((effect m s).advance o.size))

/-- A storing instruction: `write8(EA, v)`, with no read of `EA` (rule R111). -/
def storeInstr (op : Byte) (o : Operand) (value : State → Byte) (s : State) : Result :=
  complete op s (do
    let (ea, s) ← resolve o s
    let s ← write8 .dataWrite ea (value s) s
    .ok (s.advance o.size))

/-- A read-modify-write instruction: `M <- read8(EA)`, then `write8(EA, r)`, then its effect on registers and flags
(rules R66, R111). -/
def modifyInstr (op : Byte) (o : Operand) (value : Byte → State → Byte) (effect : Byte → State → State) (s : State) :
    Result :=
  complete op s (do
    let (ea, s) ← resolve o s
    let (m, s) ← read8 .dataRead ea s
    let s ← write8 .dataWrite ea (value m s) s
    .ok ((effect m s).advance o.size))

/-- A one-byte instruction with no bus access of its own (rule R97: the advance is zero). -/
def impliedInstr (effect : State → State) (s : State) : Result := .next (effect s)

/-! ### Effective addresses, without the accesses that compute them

`State.zeroPageWord` and `effectiveAddr` say rules R99 to R107 as plain functions of the state. `resolve` computes the same
address (Laws/Bus.lean), the pointers of the indirect modes being zero-page bytes, that is RAM. -/

/-- The word a zero-page pointer holds, its high byte from `u8(z + 1)` (rules R53, R62). -/
def State.zeroPageWord (s : State) (z : Byte) : Addr :=
  word16 (Memory.get s.ram (z + 1).toNat) (Memory.get s.ram z.toNat)

/-- The effective address of an operand (rules R99 to R107); 0 for a form that has none. -/
def effectiveAddr (o : Operand) (s : State) : Addr :=
  match o with
  | .immediate _ => s.pc
  | .zeroPage z => zext16 z
  | .zeroPageX z => zext16 (z + s.x)
  | .zeroPageY z => zext16 (z + s.y)
  | .absolute a => a
  | .absoluteX a => a + zext16 s.x
  | .absoluteY a => a + zext16 s.y
  | .indirectX z => s.zeroPageWord (z + s.x)
  | .indirectY z => s.zeroPageWord z + zext16 s.y
  | .implied => 0
  | .accumulator => 0
  | .relative _ => 0
  | .target _ => 0
  | .indirectTarget _ => 0

end Sys2Proof.Machine
end

