-- ==== Sys2Proof/Machine/Arithmetic.lean ====
section
/-! DEFINITION. ADC, SBC, logic, compares and BIT (rules R170 to R181), and SBC 0xEB (rule R277). -/

namespace Sys2Proof.Machine

/-! ### Effects -/

/-- `A <- A + M + C` with C, V, Z, N (rule R172). -/
def adcEffect (m : Byte) (s : State) : State := addToA m s

/-- `A <- A - M - (1 - C)` with C, V, Z, N (rule R173). -/
def sbcEffect (m : Byte) (s : State) : State := subFromA m s

/-- `A <- A & M; setZN(A)` (rule R174). -/
def andEffect (m : Byte) (s : State) : State := State.setZN { s with a := s.a &&& m } (s.a &&& m)

/-- `A <- A | M; setZN(A)` (rule R175). -/
def oraEffect (m : Byte) (s : State) : State := State.setZN { s with a := s.a ||| m } (s.a ||| m)

/-- `A <- A ^ M; setZN(A)` (rule R176). -/
def eorEffect (m : Byte) (s : State) : State := State.setZN { s with a := s.a ^^^ m } (s.a ^^^ m)

/-- `compare(A, M)` (rule R178). -/
def cmpEffect (m : Byte) (s : State) : State := compareReg s.a m s

/-- `compare(X, M)` (rule R179). -/
def cpxEffect (m : Byte) (s : State) : State := compareReg s.x m s

/-- `compare(Y, M)` (rule R180). -/
def cpyEffect (m : Byte) (s : State) : State := compareReg s.y m s

/-- `P.Z <- ((A & M) == 0); P.V <- M[6]; P.N <- M[7]` (rule R181). -/
def bitEffect (m : Byte) (s : State) : State :=
  ((s.setFlag .Z (s.a &&& m == 0x00)).setFlag .V (m.getLsbD 6)).setFlag .N (m.getLsbD 7)

/-! ### Meanings -/

/-- `ADC ($nn,X)` (0x61), rule R172. -/
def execAdcIndX (z : Byte) (s : State) : Result := readInstr 0x61 (.indirectX z) adcEffect s

/-- `ADC $nn` (0x65), rule R172. -/
def execAdcZp (z : Byte) (s : State) : Result := readInstr 0x65 (.zeroPage z) adcEffect s

/-- `ADC #$nn` (0x69), rule R172. -/
def execAdcImm (b : Byte) (s : State) : Result := readInstr 0x69 (.immediate b) adcEffect s

/-- `ADC $nnnn` (0x6D), rule R172. -/
def execAdcAbs (a : Addr) (s : State) : Result := readInstr 0x6D (.absolute a) adcEffect s

/-- `ADC ($nn),Y` (0x71), rule R172. -/
def execAdcIndY (z : Byte) (s : State) : Result := readInstr 0x71 (.indirectY z) adcEffect s

/-- `ADC $nn,X` (0x75), rule R172. -/
def execAdcZpX (z : Byte) (s : State) : Result := readInstr 0x75 (.zeroPageX z) adcEffect s

/-- `ADC $nnnn,Y` (0x79), rule R172. -/
def execAdcAbsY (a : Addr) (s : State) : Result := readInstr 0x79 (.absoluteY a) adcEffect s

/-- `ADC $nnnn,X` (0x7D), rule R172. -/
def execAdcAbsX (a : Addr) (s : State) : Result := readInstr 0x7D (.absoluteX a) adcEffect s

/-- `SBC ($nn,X)` (0xE1), rule R173. -/
def execSbcIndX (z : Byte) (s : State) : Result := readInstr 0xE1 (.indirectX z) sbcEffect s

/-- `SBC $nn` (0xE5), rule R173. -/
def execSbcZp (z : Byte) (s : State) : Result := readInstr 0xE5 (.zeroPage z) sbcEffect s

/-- `SBC #$nn` (0xE9), rule R173. -/
def execSbcImm (b : Byte) (s : State) : Result := readInstr 0xE9 (.immediate b) sbcEffect s

/-- `SBC #$nn` (0xEB), rule R277. -/
def execSbcEBImm (b : Byte) (s : State) : Result := readInstr 0xEB (.immediate b) sbcEffect s

/-- `SBC $nnnn` (0xED), rule R173. -/
def execSbcAbs (a : Addr) (s : State) : Result := readInstr 0xED (.absolute a) sbcEffect s

/-- `SBC ($nn),Y` (0xF1), rule R173. -/
def execSbcIndY (z : Byte) (s : State) : Result := readInstr 0xF1 (.indirectY z) sbcEffect s

/-- `SBC $nn,X` (0xF5), rule R173. -/
def execSbcZpX (z : Byte) (s : State) : Result := readInstr 0xF5 (.zeroPageX z) sbcEffect s

/-- `SBC $nnnn,Y` (0xF9), rule R173. -/
def execSbcAbsY (a : Addr) (s : State) : Result := readInstr 0xF9 (.absoluteY a) sbcEffect s

/-- `SBC $nnnn,X` (0xFD), rule R173. -/
def execSbcAbsX (a : Addr) (s : State) : Result := readInstr 0xFD (.absoluteX a) sbcEffect s

/-- `AND ($nn,X)` (0x21), rule R174. -/
def execAndIndX (z : Byte) (s : State) : Result := readInstr 0x21 (.indirectX z) andEffect s

/-- `AND $nn` (0x25), rule R174. -/
def execAndZp (z : Byte) (s : State) : Result := readInstr 0x25 (.zeroPage z) andEffect s

/-- `AND #$nn` (0x29), rule R174. -/
def execAndImm (b : Byte) (s : State) : Result := readInstr 0x29 (.immediate b) andEffect s

/-- `AND $nnnn` (0x2D), rule R174. -/
def execAndAbs (a : Addr) (s : State) : Result := readInstr 0x2D (.absolute a) andEffect s

/-- `AND ($nn),Y` (0x31), rule R174. -/
def execAndIndY (z : Byte) (s : State) : Result := readInstr 0x31 (.indirectY z) andEffect s

/-- `AND $nn,X` (0x35), rule R174. -/
def execAndZpX (z : Byte) (s : State) : Result := readInstr 0x35 (.zeroPageX z) andEffect s

/-- `AND $nnnn,Y` (0x39), rule R174. -/
def execAndAbsY (a : Addr) (s : State) : Result := readInstr 0x39 (.absoluteY a) andEffect s

/-- `AND $nnnn,X` (0x3D), rule R174. -/
def execAndAbsX (a : Addr) (s : State) : Result := readInstr 0x3D (.absoluteX a) andEffect s

/-- `ORA ($nn,X)` (0x01), rule R175. -/
def execOraIndX (z : Byte) (s : State) : Result := readInstr 0x01 (.indirectX z) oraEffect s

/-- `ORA $nn` (0x05), rule R175. -/
def execOraZp (z : Byte) (s : State) : Result := readInstr 0x05 (.zeroPage z) oraEffect s

/-- `ORA #$nn` (0x09), rule R175. -/
def execOraImm (b : Byte) (s : State) : Result := readInstr 0x09 (.immediate b) oraEffect s

/-- `ORA $nnnn` (0x0D), rule R175. -/
def execOraAbs (a : Addr) (s : State) : Result := readInstr 0x0D (.absolute a) oraEffect s

/-- `ORA ($nn),Y` (0x11), rule R175. -/
def execOraIndY (z : Byte) (s : State) : Result := readInstr 0x11 (.indirectY z) oraEffect s

/-- `ORA $nn,X` (0x15), rule R175. -/
def execOraZpX (z : Byte) (s : State) : Result := readInstr 0x15 (.zeroPageX z) oraEffect s

/-- `ORA $nnnn,Y` (0x19), rule R175. -/
def execOraAbsY (a : Addr) (s : State) : Result := readInstr 0x19 (.absoluteY a) oraEffect s

/-- `ORA $nnnn,X` (0x1D), rule R175. -/
def execOraAbsX (a : Addr) (s : State) : Result := readInstr 0x1D (.absoluteX a) oraEffect s

/-- `EOR ($nn,X)` (0x41), rule R176. -/
def execEorIndX (z : Byte) (s : State) : Result := readInstr 0x41 (.indirectX z) eorEffect s

/-- `EOR $nn` (0x45), rule R176. -/
def execEorZp (z : Byte) (s : State) : Result := readInstr 0x45 (.zeroPage z) eorEffect s

/-- `EOR #$nn` (0x49), rule R176. -/
def execEorImm (b : Byte) (s : State) : Result := readInstr 0x49 (.immediate b) eorEffect s

/-- `EOR $nnnn` (0x4D), rule R176. -/
def execEorAbs (a : Addr) (s : State) : Result := readInstr 0x4D (.absolute a) eorEffect s

/-- `EOR ($nn),Y` (0x51), rule R176. -/
def execEorIndY (z : Byte) (s : State) : Result := readInstr 0x51 (.indirectY z) eorEffect s

/-- `EOR $nn,X` (0x55), rule R176. -/
def execEorZpX (z : Byte) (s : State) : Result := readInstr 0x55 (.zeroPageX z) eorEffect s

/-- `EOR $nnnn,Y` (0x59), rule R176. -/
def execEorAbsY (a : Addr) (s : State) : Result := readInstr 0x59 (.absoluteY a) eorEffect s

/-- `EOR $nnnn,X` (0x5D), rule R176. -/
def execEorAbsX (a : Addr) (s : State) : Result := readInstr 0x5D (.absoluteX a) eorEffect s

/-- `CMP ($nn,X)` (0xC1), rule R178. -/
def execCmpIndX (z : Byte) (s : State) : Result := readInstr 0xC1 (.indirectX z) cmpEffect s

/-- `CMP $nn` (0xC5), rule R178. -/
def execCmpZp (z : Byte) (s : State) : Result := readInstr 0xC5 (.zeroPage z) cmpEffect s

/-- `CMP #$nn` (0xC9), rule R178. -/
def execCmpImm (b : Byte) (s : State) : Result := readInstr 0xC9 (.immediate b) cmpEffect s

/-- `CMP $nnnn` (0xCD), rule R178. -/
def execCmpAbs (a : Addr) (s : State) : Result := readInstr 0xCD (.absolute a) cmpEffect s

/-- `CMP ($nn),Y` (0xD1), rule R178. -/
def execCmpIndY (z : Byte) (s : State) : Result := readInstr 0xD1 (.indirectY z) cmpEffect s

/-- `CMP $nn,X` (0xD5), rule R178. -/
def execCmpZpX (z : Byte) (s : State) : Result := readInstr 0xD5 (.zeroPageX z) cmpEffect s

/-- `CMP $nnnn,Y` (0xD9), rule R178. -/
def execCmpAbsY (a : Addr) (s : State) : Result := readInstr 0xD9 (.absoluteY a) cmpEffect s

/-- `CMP $nnnn,X` (0xDD), rule R178. -/
def execCmpAbsX (a : Addr) (s : State) : Result := readInstr 0xDD (.absoluteX a) cmpEffect s

/-- `CPX #$nn` (0xE0), rule R179. -/
def execCpxImm (b : Byte) (s : State) : Result := readInstr 0xE0 (.immediate b) cpxEffect s

/-- `CPX $nn` (0xE4), rule R179. -/
def execCpxZp (z : Byte) (s : State) : Result := readInstr 0xE4 (.zeroPage z) cpxEffect s

/-- `CPX $nnnn` (0xEC), rule R179. -/
def execCpxAbs (a : Addr) (s : State) : Result := readInstr 0xEC (.absolute a) cpxEffect s

/-- `CPY #$nn` (0xC0), rule R180. -/
def execCpyImm (b : Byte) (s : State) : Result := readInstr 0xC0 (.immediate b) cpyEffect s

/-- `CPY $nn` (0xC4), rule R180. -/
def execCpyZp (z : Byte) (s : State) : Result := readInstr 0xC4 (.zeroPage z) cpyEffect s

/-- `CPY $nnnn` (0xCC), rule R180. -/
def execCpyAbs (a : Addr) (s : State) : Result := readInstr 0xCC (.absolute a) cpyEffect s

/-- `BIT $nn` (0x24), rule R181. -/
def execBitZp (z : Byte) (s : State) : Result := readInstr 0x24 (.zeroPage z) bitEffect s

/-- `BIT $nnnn` (0x2C), rule R181. -/
def execBitAbs (a : Addr) (s : State) : Result := readInstr 0x2C (.absolute a) bitEffect s

end Sys2Proof.Machine
end

