-- ==== Sys2Proof/Machine/ControlFlow.lean ====
section
/-! DEFINITION. Branches, jumps, calls and returns, all of `PC_SETTING` (rules R98, R220 to R233). In each body `PC` is `opaddr + 1`. -/

namespace Sys2Proof.Machine

/-! ### Branches -/

/-- The branch primitive (rule R220): past the offset byte, and by the offset if the condition holds. -/
def branch (cond : Bool) (off : Byte) (s : State) : Result :=
  .next { s with pc := if cond then s.pc + 1 + sext16 off else s.pc + 1 }

/-- `BCC $rr` (0x90), rule R221. -/
def execBcc (r : Byte) (s : State) : Result := branch (!s.flag .C) r s

/-- `BCS $rr` (0xB0), rule R222. -/
def execBcs (r : Byte) (s : State) : Result := branch (s.flag .C) r s

/-- `BEQ $rr` (0xF0), rule R223. -/
def execBeq (r : Byte) (s : State) : Result := branch (s.flag .Z) r s

/-- `BNE $rr` (0xD0), rule R224. -/
def execBne (r : Byte) (s : State) : Result := branch (!s.flag .Z) r s

/-- `BMI $rr` (0x30), rule R225. -/
def execBmi (r : Byte) (s : State) : Result := branch (s.flag .N) r s

/-- `BPL $rr` (0x10), rule R226. -/
def execBpl (r : Byte) (s : State) : Result := branch (!s.flag .N) r s

/-- `BVC $rr` (0x50), rule R227. -/
def execBvc (r : Byte) (s : State) : Result := branch (!s.flag .V) r s

/-- `BVS $rr` (0x70), rule R228. -/
def execBvs (r : Byte) (s : State) : Result := branch (s.flag .V) r s

/-! ### Jumps -/

/-- The address of the high byte of an indirect target: the page-wrap quirk (rules R110, R230). -/
def indirectHigh (ptr : Addr) : Addr := if lo8 ptr = 0xFF then ptr &&& 0xFF00 else ptr + 1

/-- `JMP $nnnn` (0x4C), rule R229. -/
def execJmpAbs (a : Addr) (s : State) : Result := .next { s with pc := a }

/-- `JMP ($nnnn)` (0x6C), rule R230. -/
def execJmpInd (a : Addr) (s : State) : Result :=
  complete 0x6C s (do
    let (lo, s) ← read8 .pointer a s
    let (hi, s) ← read8 .pointer (indirectHigh a) s
    .ok { s with pc := word16 hi lo })

/-! ### Calls and returns -/

/-- `JSR $nnnn` (0x20), rule R231. -/
def execJsr (a : Addr) (s : State) : Result :=
  complete 0x20 s (do
    let s ← push16 (s.pc + 1) s
    .ok { s with pc := a })

/-- `RTS` (0x60), rule R232. -/
def execRts (s : State) : Result :=
  complete 0x60 s (do
    let (v, s) ← pop16 s
    .ok { s with pc := v + 1 })

/-- `RTI` (0x40), rule R233. -/
def execRti (s : State) : Result :=
  complete 0x40 s (do
    let (v, s) ← pop8 s
    let (ret, s) ← pop16 { s with p := pulledStatus v }
    .ok { s with pc := ret })

end Sys2Proof.Machine
end

