-- ==== Sys2Proof/Machine/IncDec.lean ====
section
/-! DEFINITION. Increments and decrements (rules R182 to R187). -/

namespace Sys2Proof.Machine

/-! ### Effects -/

/-- `u8(M + 1)` (rule R182). -/
def incValue (m : Byte) (_ : State) : Byte := m + 1

/-- `setZN` of the incremented byte (rule R182). -/
def incEffect (m : Byte) (s : State) : State := s.setZN (m + 1)

/-- `u8(M - 1)` (rule R183). -/
def decValue (m : Byte) (_ : State) : Byte := m - 1

/-- `setZN` of the decremented byte (rule R183). -/
def decEffect (m : Byte) (s : State) : State := s.setZN (m - 1)

/-- `X <- u8(X + 1); setZN(X)` (rule R184). -/
def inxEffect (s : State) : State := State.setZN { s with x := s.x + 1 } (s.x + 1)

/-- `Y <- u8(Y + 1); setZN(Y)` (rule R185). -/
def inyEffect (s : State) : State := State.setZN { s with y := s.y + 1 } (s.y + 1)

/-- `X <- u8(X - 1); setZN(X)` (rule R186). -/
def dexEffect (s : State) : State := State.setZN { s with x := s.x - 1 } (s.x - 1)

/-- `Y <- u8(Y - 1); setZN(Y)` (rule R187). -/
def deyEffect (s : State) : State := State.setZN { s with y := s.y - 1 } (s.y - 1)

/-! ### Meanings -/

/-- `INC $nn` (0xE6), rule R182. -/
def execIncZp (z : Byte) (s : State) : Result := modifyInstr 0xE6 (.zeroPage z) incValue incEffect s

/-- `INC $nnnn` (0xEE), rule R182. -/
def execIncAbs (a : Addr) (s : State) : Result := modifyInstr 0xEE (.absolute a) incValue incEffect s

/-- `INC $nn,X` (0xF6), rule R182. -/
def execIncZpX (z : Byte) (s : State) : Result := modifyInstr 0xF6 (.zeroPageX z) incValue incEffect s

/-- `INC $nnnn,X` (0xFE), rule R182. -/
def execIncAbsX (a : Addr) (s : State) : Result := modifyInstr 0xFE (.absoluteX a) incValue incEffect s

/-- `DEC $nn` (0xC6), rule R183. -/
def execDecZp (z : Byte) (s : State) : Result := modifyInstr 0xC6 (.zeroPage z) decValue decEffect s

/-- `DEC $nnnn` (0xCE), rule R183. -/
def execDecAbs (a : Addr) (s : State) : Result := modifyInstr 0xCE (.absolute a) decValue decEffect s

/-- `DEC $nn,X` (0xD6), rule R183. -/
def execDecZpX (z : Byte) (s : State) : Result := modifyInstr 0xD6 (.zeroPageX z) decValue decEffect s

/-- `DEC $nnnn,X` (0xDE), rule R183. -/
def execDecAbsX (a : Addr) (s : State) : Result := modifyInstr 0xDE (.absoluteX a) decValue decEffect s

/-- `INX` (0xE8), rule R184. -/
def execInx (s : State) : Result := impliedInstr inxEffect s

/-- `INY` (0xC8), rule R185. -/
def execIny (s : State) : Result := impliedInstr inyEffect s

/-- `DEX` (0xCA), rule R186. -/
def execDex (s : State) : Result := impliedInstr dexEffect s

/-- `DEY` (0x88), rule R187. -/
def execDey (s : State) : Result := impliedInstr deyEffect s

end Sys2Proof.Machine
end

