-- ==== Sys2Proof/Machine/LoadStore.lean ====
section
/-! DEFINITION. Loads and stores: LDA LDX LDY STA STX STY (rules R130 to R135). -/

namespace Sys2Proof.Machine

/-! ### Effects -/

/-- `A <- M; setZN(A)` (rule R130). -/
def ldaEffect (m : Byte) (s : State) : State := State.setZN { s with a := m } m

/-- `X <- M; setZN(X)` (rule R131). -/
def ldxEffect (m : Byte) (s : State) : State := State.setZN { s with x := m } m

/-- `Y <- M; setZN(Y)` (rule R132). -/
def ldyEffect (m : Byte) (s : State) : State := State.setZN { s with y := m } m

/-- What STA stores (rule R133). -/
def staValue (s : State) : Byte := s.a

/-- What STX stores (rule R134). -/
def stxValue (s : State) : Byte := s.x

/-- What STY stores (rule R135). -/
def styValue (s : State) : Byte := s.y

/-! ### Meanings -/

/-- `LDA ($nn,X)` (0xA1), rule R130. -/
def execLdaIndX (z : Byte) (s : State) : Result := readInstr 0xA1 (.indirectX z) ldaEffect s

/-- `LDA $nn` (0xA5), rule R130. -/
def execLdaZp (z : Byte) (s : State) : Result := readInstr 0xA5 (.zeroPage z) ldaEffect s

/-- `LDA #$nn` (0xA9), rule R130. -/
def execLdaImm (b : Byte) (s : State) : Result := readInstr 0xA9 (.immediate b) ldaEffect s

/-- `LDA $nnnn` (0xAD), rule R130. -/
def execLdaAbs (a : Addr) (s : State) : Result := readInstr 0xAD (.absolute a) ldaEffect s

/-- `LDA ($nn),Y` (0xB1), rule R130. -/
def execLdaIndY (z : Byte) (s : State) : Result := readInstr 0xB1 (.indirectY z) ldaEffect s

/-- `LDA $nn,X` (0xB5), rule R130. -/
def execLdaZpX (z : Byte) (s : State) : Result := readInstr 0xB5 (.zeroPageX z) ldaEffect s

/-- `LDA $nnnn,Y` (0xB9), rule R130. -/
def execLdaAbsY (a : Addr) (s : State) : Result := readInstr 0xB9 (.absoluteY a) ldaEffect s

/-- `LDA $nnnn,X` (0xBD), rule R130. -/
def execLdaAbsX (a : Addr) (s : State) : Result := readInstr 0xBD (.absoluteX a) ldaEffect s

/-- `LDX #$nn` (0xA2), rule R131. -/
def execLdxImm (b : Byte) (s : State) : Result := readInstr 0xA2 (.immediate b) ldxEffect s

/-- `LDX $nn` (0xA6), rule R131. -/
def execLdxZp (z : Byte) (s : State) : Result := readInstr 0xA6 (.zeroPage z) ldxEffect s

/-- `LDX $nnnn` (0xAE), rule R131. -/
def execLdxAbs (a : Addr) (s : State) : Result := readInstr 0xAE (.absolute a) ldxEffect s

/-- `LDX $nn,Y` (0xB6), rule R131. -/
def execLdxZpY (z : Byte) (s : State) : Result := readInstr 0xB6 (.zeroPageY z) ldxEffect s

/-- `LDX $nnnn,Y` (0xBE), rule R131. -/
def execLdxAbsY (a : Addr) (s : State) : Result := readInstr 0xBE (.absoluteY a) ldxEffect s

/-- `LDY #$nn` (0xA0), rule R132. -/
def execLdyImm (b : Byte) (s : State) : Result := readInstr 0xA0 (.immediate b) ldyEffect s

/-- `LDY $nn` (0xA4), rule R132. -/
def execLdyZp (z : Byte) (s : State) : Result := readInstr 0xA4 (.zeroPage z) ldyEffect s

/-- `LDY $nnnn` (0xAC), rule R132. -/
def execLdyAbs (a : Addr) (s : State) : Result := readInstr 0xAC (.absolute a) ldyEffect s

/-- `LDY $nn,X` (0xB4), rule R132. -/
def execLdyZpX (z : Byte) (s : State) : Result := readInstr 0xB4 (.zeroPageX z) ldyEffect s

/-- `LDY $nnnn,X` (0xBC), rule R132. -/
def execLdyAbsX (a : Addr) (s : State) : Result := readInstr 0xBC (.absoluteX a) ldyEffect s

/-- `STA ($nn,X)` (0x81), rule R133. -/
def execStaIndX (z : Byte) (s : State) : Result := storeInstr 0x81 (.indirectX z) staValue s

/-- `STA $nn` (0x85), rule R133. -/
def execStaZp (z : Byte) (s : State) : Result := storeInstr 0x85 (.zeroPage z) staValue s

/-- `STA $nnnn` (0x8D), rule R133. -/
def execStaAbs (a : Addr) (s : State) : Result := storeInstr 0x8D (.absolute a) staValue s

/-- `STA ($nn),Y` (0x91), rule R133. -/
def execStaIndY (z : Byte) (s : State) : Result := storeInstr 0x91 (.indirectY z) staValue s

/-- `STA $nn,X` (0x95), rule R133. -/
def execStaZpX (z : Byte) (s : State) : Result := storeInstr 0x95 (.zeroPageX z) staValue s

/-- `STA $nnnn,Y` (0x99), rule R133. -/
def execStaAbsY (a : Addr) (s : State) : Result := storeInstr 0x99 (.absoluteY a) staValue s

/-- `STA $nnnn,X` (0x9D), rule R133. -/
def execStaAbsX (a : Addr) (s : State) : Result := storeInstr 0x9D (.absoluteX a) staValue s

/-- `STX $nn` (0x86), rule R134. -/
def execStxZp (z : Byte) (s : State) : Result := storeInstr 0x86 (.zeroPage z) stxValue s

/-- `STX $nnnn` (0x8E), rule R134. -/
def execStxAbs (a : Addr) (s : State) : Result := storeInstr 0x8E (.absolute a) stxValue s

/-- `STX $nn,Y` (0x96), rule R134. -/
def execStxZpY (z : Byte) (s : State) : Result := storeInstr 0x96 (.zeroPageY z) stxValue s

/-- `STY $nn` (0x84), rule R135. -/
def execStyZp (z : Byte) (s : State) : Result := storeInstr 0x84 (.zeroPage z) styValue s

/-- `STY $nnnn` (0x8C), rule R135. -/
def execStyAbs (a : Addr) (s : State) : Result := storeInstr 0x8C (.absolute a) styValue s

/-- `STY $nn,X` (0x94), rule R135. -/
def execStyZpX (z : Byte) (s : State) : Result := storeInstr 0x94 (.zeroPageX z) styValue s

end Sys2Proof.Machine
end

