-- ==== Sys2Proof/Machine/Shift.lean ====
section
/-! DEFINITION. Shifts and rotates of the accumulator or of memory (rules R188 to R192). -/

namespace Sys2Proof.Machine

/-! ### Effects -/

/-- The shifted accumulator, with C, Z, N (rule R189). -/
def aslAEffect (s : State) : State :=
  State.setShiftFlags { s with a := (asl s.a).value } (asl s.a)

/-- The shifted byte (rule R189). -/
def aslValue (m : Byte) (_ : State) : Byte := (asl m).value

/-- C, Z, N of the shift (rule R189). -/
def aslEffect (m : Byte) (s : State) : State := s.setShiftFlags (asl m)

/-- The shifted accumulator, with C, Z, N (rule R190). -/
def lsrAEffect (s : State) : State :=
  State.setShiftFlags { s with a := (lsr s.a).value } (lsr s.a)

/-- The shifted byte (rule R190). -/
def lsrValue (m : Byte) (_ : State) : Byte := (lsr m).value

/-- C, Z, N of the shift (rule R190). -/
def lsrEffect (m : Byte) (s : State) : State := s.setShiftFlags (lsr m)

/-- The shifted accumulator, with C, Z, N (rule R191). -/
def rolAEffect (s : State) : State :=
  State.setShiftFlags { s with a := (rol s.a (s.flag .C)).value } (rol s.a (s.flag .C))

/-- The shifted byte (rule R191). -/
def rolValue (m : Byte) (s : State) : Byte := (rol m (s.flag .C)).value

/-- C, Z, N of the shift (rule R191). -/
def rolEffect (m : Byte) (s : State) : State := s.setShiftFlags (rol m (s.flag .C))

/-- The shifted accumulator, with C, Z, N (rule R192). -/
def rorAEffect (s : State) : State :=
  State.setShiftFlags { s with a := (ror s.a (s.flag .C)).value } (ror s.a (s.flag .C))

/-- The shifted byte (rule R192). -/
def rorValue (m : Byte) (s : State) : Byte := (ror m (s.flag .C)).value

/-- C, Z, N of the shift (rule R192). -/
def rorEffect (m : Byte) (s : State) : State := s.setShiftFlags (ror m (s.flag .C))

/-! ### Meanings -/

/-- `ASL $nn` (0x06), rule R189. -/
def execAslZp (z : Byte) (s : State) : Result := modifyInstr 0x06 (.zeroPage z) aslValue aslEffect s

/-- `ASL A` (0x0A), rule R189. -/
def execAslA (s : State) : Result := impliedInstr aslAEffect s

/-- `ASL $nnnn` (0x0E), rule R189. -/
def execAslAbs (a : Addr) (s : State) : Result := modifyInstr 0x0E (.absolute a) aslValue aslEffect s

/-- `ASL $nn,X` (0x16), rule R189. -/
def execAslZpX (z : Byte) (s : State) : Result := modifyInstr 0x16 (.zeroPageX z) aslValue aslEffect s

/-- `ASL $nnnn,X` (0x1E), rule R189. -/
def execAslAbsX (a : Addr) (s : State) : Result := modifyInstr 0x1E (.absoluteX a) aslValue aslEffect s

/-- `LSR $nn` (0x46), rule R190. -/
def execLsrZp (z : Byte) (s : State) : Result := modifyInstr 0x46 (.zeroPage z) lsrValue lsrEffect s

/-- `LSR A` (0x4A), rule R190. -/
def execLsrA (s : State) : Result := impliedInstr lsrAEffect s

/-- `LSR $nnnn` (0x4E), rule R190. -/
def execLsrAbs (a : Addr) (s : State) : Result := modifyInstr 0x4E (.absolute a) lsrValue lsrEffect s

/-- `LSR $nn,X` (0x56), rule R190. -/
def execLsrZpX (z : Byte) (s : State) : Result := modifyInstr 0x56 (.zeroPageX z) lsrValue lsrEffect s

/-- `LSR $nnnn,X` (0x5E), rule R190. -/
def execLsrAbsX (a : Addr) (s : State) : Result := modifyInstr 0x5E (.absoluteX a) lsrValue lsrEffect s

/-- `ROL $nn` (0x26), rule R191. -/
def execRolZp (z : Byte) (s : State) : Result := modifyInstr 0x26 (.zeroPage z) rolValue rolEffect s

/-- `ROL A` (0x2A), rule R191. -/
def execRolA (s : State) : Result := impliedInstr rolAEffect s

/-- `ROL $nnnn` (0x2E), rule R191. -/
def execRolAbs (a : Addr) (s : State) : Result := modifyInstr 0x2E (.absolute a) rolValue rolEffect s

/-- `ROL $nn,X` (0x36), rule R191. -/
def execRolZpX (z : Byte) (s : State) : Result := modifyInstr 0x36 (.zeroPageX z) rolValue rolEffect s

/-- `ROL $nnnn,X` (0x3E), rule R191. -/
def execRolAbsX (a : Addr) (s : State) : Result := modifyInstr 0x3E (.absoluteX a) rolValue rolEffect s

/-- `ROR $nn` (0x66), rule R192. -/
def execRorZp (z : Byte) (s : State) : Result := modifyInstr 0x66 (.zeroPage z) rorValue rorEffect s

/-- `ROR A` (0x6A), rule R192. -/
def execRorA (s : State) : Result := impliedInstr rorAEffect s

/-- `ROR $nnnn` (0x6E), rule R192. -/
def execRorAbs (a : Addr) (s : State) : Result := modifyInstr 0x6E (.absolute a) rorValue rorEffect s

/-- `ROR $nn,X` (0x76), rule R192. -/
def execRorZpX (z : Byte) (s : State) : Result := modifyInstr 0x76 (.zeroPageX z) rorValue rorEffect s

/-- `ROR $nnnn,X` (0x7E), rule R192. -/
def execRorAbsX (a : Addr) (s : State) : Result := modifyInstr 0x7E (.absoluteX a) rorValue rorEffect s

end Sys2Proof.Machine
end

