-- ==== Sys2Proof/Machine/System.lean ====
section
/-! DEFINITION. BRK, KIL, the flag instructions and the NOPs (rules R234 to R242, R261 to R264). -/

namespace Sys2Proof.Machine

/-! ### Halts -/

/-- `if BRK_SETS_B: P.B <- 1` (rule R234). -/
def brkEffect (s : State) : State := if s.config.brkSetsB then s.setFlag .B true else s

/-- `BRK` (0x00), rule R234. -/
def execBrk (s : State) : Result := halt .brk (brkEffect s)

/-- `KIL` (0x02), rule R264. -/
def execKil02 (s : State) : Result := halt .kil s

/-- `KIL` (0x12), rule R264. -/
def execKil12 (s : State) : Result := halt .kil s

/-- `KIL` (0x22), rule R264. -/
def execKil22 (s : State) : Result := halt .kil s

/-- `KIL` (0x32), rule R264. -/
def execKil32 (s : State) : Result := halt .kil s

/-- `KIL` (0x42), rule R264. -/
def execKil42 (s : State) : Result := halt .kil s

/-- `KIL` (0x52), rule R264. -/
def execKil52 (s : State) : Result := halt .kil s

/-- `KIL` (0x62), rule R264. -/
def execKil62 (s : State) : Result := halt .kil s

/-- `KIL` (0x72), rule R264. -/
def execKil72 (s : State) : Result := halt .kil s

/-- `KIL` (0x92), rule R264. -/
def execKil92 (s : State) : Result := halt .kil s

/-- `KIL` (0xB2), rule R264. -/
def execKilB2 (s : State) : Result := halt .kil s

/-- `KIL` (0xD2), rule R264. -/
def execKilD2 (s : State) : Result := halt .kil s

/-- `KIL` (0xF2), rule R264. -/
def execKilF2 (s : State) : Result := halt .kil s

/-! ### Flag instructions -/

/-- `P.C <- 0` (rule R235). -/
def clcEffect (s : State) : State := s.setFlag .C false

/-- `P.C <- 1` (rule R236). -/
def secEffect (s : State) : State := s.setFlag .C true

/-- `P.I <- 0` (rule R237). -/
def cliEffect (s : State) : State := s.setFlag .I false

/-- `P.I <- 1` (rule R238). -/
def seiEffect (s : State) : State := s.setFlag .I true

/-- `P.D <- 0` (rule R239). -/
def cldEffect (s : State) : State := s.setFlag .D false

/-- `P.D <- 1` (rule R240). -/
def sedEffect (s : State) : State := s.setFlag .D true

/-- `P.V <- 0` (rule R241). -/
def clvEffect (s : State) : State := s.setFlag .V false

/-- `CLC` (0x18), rule R235. -/
def execClc (s : State) : Result := impliedInstr clcEffect s

/-- `SEC` (0x38), rule R236. -/
def execSec (s : State) : Result := impliedInstr secEffect s

/-- `CLI` (0x58), rule R237. -/
def execCli (s : State) : Result := impliedInstr cliEffect s

/-- `SEI` (0x78), rule R238. -/
def execSei (s : State) : Result := impliedInstr seiEffect s

/-- `CLD` (0xD8), rule R239. -/
def execCld (s : State) : Result := impliedInstr cldEffect s

/-- `SED` (0xF8), rule R240. -/
def execSed (s : State) : Result := impliedInstr sedEffect s

/-- `CLV` (0xB8), rule R241. -/
def execClv (s : State) : Result := impliedInstr clvEffect s

/-! ### No operation -/

/-- No effect (rules R242, R261). -/
def nopEffect (s : State) : State := s

/-- A byte read and discarded (rules R262, R263, D7). -/
def nopReadEffect (_ : Byte) (s : State) : State := s

/-- `NOP $nn` (0x04), rule R263. -/
def execNop04Zp (z : Byte) (s : State) : Result := readInstr 0x04 (.zeroPage z) nopReadEffect s

/-- `NOP $nnnn` (0x0C), rule R263. -/
def execNop0CAbs (a : Addr) (s : State) : Result := readInstr 0x0C (.absolute a) nopReadEffect s

/-- `NOP $nn,X` (0x14), rule R263. -/
def execNop14ZpX (z : Byte) (s : State) : Result := readInstr 0x14 (.zeroPageX z) nopReadEffect s

/-- `NOP` (0x1A), rule R261. -/
def execNop1A (s : State) : Result := impliedInstr nopEffect s

/-- `NOP $nnnn,X` (0x1C), rule R263. -/
def execNop1CAbsX (a : Addr) (s : State) : Result := readInstr 0x1C (.absoluteX a) nopReadEffect s

/-- `NOP $nn,X` (0x34), rule R263. -/
def execNop34ZpX (z : Byte) (s : State) : Result := readInstr 0x34 (.zeroPageX z) nopReadEffect s

/-- `NOP` (0x3A), rule R261. -/
def execNop3A (s : State) : Result := impliedInstr nopEffect s

/-- `NOP $nnnn,X` (0x3C), rule R263. -/
def execNop3CAbsX (a : Addr) (s : State) : Result := readInstr 0x3C (.absoluteX a) nopReadEffect s

/-- `NOP $nn` (0x44), rule R263. -/
def execNop44Zp (z : Byte) (s : State) : Result := readInstr 0x44 (.zeroPage z) nopReadEffect s

/-- `NOP $nn,X` (0x54), rule R263. -/
def execNop54ZpX (z : Byte) (s : State) : Result := readInstr 0x54 (.zeroPageX z) nopReadEffect s

/-- `NOP` (0x5A), rule R261. -/
def execNop5A (s : State) : Result := impliedInstr nopEffect s

/-- `NOP $nnnn,X` (0x5C), rule R263. -/
def execNop5CAbsX (a : Addr) (s : State) : Result := readInstr 0x5C (.absoluteX a) nopReadEffect s

/-- `NOP $nn` (0x64), rule R263. -/
def execNop64Zp (z : Byte) (s : State) : Result := readInstr 0x64 (.zeroPage z) nopReadEffect s

/-- `NOP $nn,X` (0x74), rule R263. -/
def execNop74ZpX (z : Byte) (s : State) : Result := readInstr 0x74 (.zeroPageX z) nopReadEffect s

/-- `NOP` (0x7A), rule R261. -/
def execNop7A (s : State) : Result := impliedInstr nopEffect s

/-- `NOP $nnnn,X` (0x7C), rule R263. -/
def execNop7CAbsX (a : Addr) (s : State) : Result := readInstr 0x7C (.absoluteX a) nopReadEffect s

/-- `NOP #$nn` (0x80), rule R262. -/
def execNop80Imm (b : Byte) (s : State) : Result := readInstr 0x80 (.immediate b) nopReadEffect s

/-- `NOP #$nn` (0x82), rule R262. -/
def execNop82Imm (b : Byte) (s : State) : Result := readInstr 0x82 (.immediate b) nopReadEffect s

/-- `NOP #$nn` (0x89), rule R262. -/
def execNop89Imm (b : Byte) (s : State) : Result := readInstr 0x89 (.immediate b) nopReadEffect s

/-- `NOP #$nn` (0xC2), rule R262. -/
def execNopC2Imm (b : Byte) (s : State) : Result := readInstr 0xC2 (.immediate b) nopReadEffect s

/-- `NOP $nn,X` (0xD4), rule R263. -/
def execNopD4ZpX (z : Byte) (s : State) : Result := readInstr 0xD4 (.zeroPageX z) nopReadEffect s

/-- `NOP` (0xDA), rule R261. -/
def execNopDA (s : State) : Result := impliedInstr nopEffect s

/-- `NOP $nnnn,X` (0xDC), rule R263. -/
def execNopDCAbsX (a : Addr) (s : State) : Result := readInstr 0xDC (.absoluteX a) nopReadEffect s

/-- `NOP #$nn` (0xE2), rule R262. -/
def execNopE2Imm (b : Byte) (s : State) : Result := readInstr 0xE2 (.immediate b) nopReadEffect s

/-- `NOP` (0xEA), rule R242. -/
def execNopEA (s : State) : Result := impliedInstr nopEffect s

/-- `NOP $nn,X` (0xF4), rule R263. -/
def execNopF4ZpX (z : Byte) (s : State) : Result := readInstr 0xF4 (.zeroPageX z) nopReadEffect s

/-- `NOP` (0xFA), rule R261. -/
def execNopFA (s : State) : Result := impliedInstr nopEffect s

/-- `NOP $nnnn,X` (0xFC), rule R263. -/
def execNopFCAbsX (a : Addr) (s : State) : Result := readInstr 0xFC (.absoluteX a) nopReadEffect s

end Sys2Proof.Machine
end

