-- ==== Sys2Proof/Machine/Transfer.lean ====
section
/-! DEFINITION. Register transfers and stack operations (rules R136 to R145). -/

namespace Sys2Proof.Machine

/-! ### Register transfers -/

/-- `X <- A; setZN(X)` (rule R136). -/
def taxEffect (s : State) : State := State.setZN { s with x := s.a } s.a

/-- `Y <- A; setZN(Y)` (rule R137). -/
def tayEffect (s : State) : State := State.setZN { s with y := s.a } s.a

/-- `A <- X; setZN(A)` (rule R138). -/
def txaEffect (s : State) : State := State.setZN { s with a := s.x } s.x

/-- `A <- Y; setZN(A)` (rule R139). -/
def tyaEffect (s : State) : State := State.setZN { s with a := s.y } s.y

/-- `X <- SP; setZN(X)` (rule R140). -/
def tsxEffect (s : State) : State := State.setZN { s with x := s.sp } s.sp

/-- `SP <- X`, no flag (rule R141). -/
def txsEffect (s : State) : State := { s with sp := s.x }

/-- `TAX` (0xAA), rule R136. -/
def execTax (s : State) : Result := impliedInstr taxEffect s

/-- `TAY` (0xA8), rule R137. -/
def execTay (s : State) : Result := impliedInstr tayEffect s

/-- `TXA` (0x8A), rule R138. -/
def execTxa (s : State) : Result := impliedInstr txaEffect s

/-- `TYA` (0x98), rule R139. -/
def execTya (s : State) : Result := impliedInstr tyaEffect s

/-- `TSX` (0xBA), rule R140. -/
def execTsx (s : State) : Result := impliedInstr tsxEffect s

/-- `TXS` (0x9A), rule R141. -/
def execTxs (s : State) : Result := impliedInstr txsEffect s

/-! ### Stack operations -/

/-- `PHA` (0x48), rule R142. -/
def execPha (s : State) : Result := complete 0x48 s (push8 s.a s)

/-- `PHP` (0x08), rule R143. -/
def execPhp (s : State) : Result := complete 0x08 s (push8 (pushedStatus s.p) s)

/-- `A <- M; setZN(A)` of a pulled byte (rule R144). -/
def plaEffect (m : Byte) (s : State) : State := State.setZN { s with a := m } m

/-- `PLA` (0x68), rule R144. -/
def execPla (s : State) : Result :=
  complete 0x68 s (do
    let (m, s) ← pop8 s
    .ok (plaEffect m s))

/-- `P <- (s & 0xEF) | 0x20` of a pulled byte (rules R33, R145). -/
def plpEffect (m : Byte) (s : State) : State := { s with p := pulledStatus m }

/-- `PLP` (0x28), rule R145. -/
def execPlp (s : State) : Result :=
  complete 0x28 s (do
    let (m, s) ← pop8 s
    .ok (plpEffect m s))

end Sys2Proof.Machine
end

