-- ==== Sys2Proof/Machine/Undocumented.lean ====
section
/-! DEFINITION. The stable undocumented opcodes but for NOP, KIL and SBC 0xEB (rules R260, R265 to R276, R278): the first operation's result is
written and flagged, then the second operation runs on it. -/

namespace Sys2Proof.Machine

/-! ### Effects -/

/-- `A <- M; X <- M; setZN(M)` (rule R265). -/
def laxEffect (m : Byte) (s : State) : State := State.setZN { s with a := m, x := m } m

/-- What SAX stores, `A & X` (rule R266). -/
def saxValue (s : State) : Byte := s.a &&& s.x

/-- The decremented byte (rule R267). -/
def dcpValue (m : Byte) (_ : State) : Byte := m - 1

/-- `compare(A, r)` with the decremented byte (rule R267, D16). -/
def dcpEffect (m : Byte) (s : State) : State := compareReg s.a (m - 1) s

/-- The incremented byte (rule R268). -/
def isbValue (m : Byte) (_ : State) : Byte := m + 1

/-- SBC of the incremented byte (rule R268). -/
def isbEffect (m : Byte) (s : State) : State := subFromA (m + 1) s

/-- The byte shifted left (rule R269). -/
def sloValue (m : Byte) (_ : State) : Byte := (asl m).value

/-- C of the shift, then ORA of its result (rule R269). -/
def sloEffect (m : Byte) (s : State) : State :=
  State.setZN (State.setFlag { s with a := s.a ||| (asl m).value } .C (asl m).carry) (s.a ||| (asl m).value)

/-- The byte rotated left (rule R270). -/
def rlaValue (m : Byte) (s : State) : Byte := (rol m (s.flag .C)).value

/-- C of the rotate, then AND of its result (rule R270). -/
def rlaEffect (m : Byte) (s : State) : State :=
  let r := rol m (s.flag .C)
  State.setZN (State.setFlag { s with a := s.a &&& r.value } .C r.carry) (s.a &&& r.value)

/-- The byte shifted right (rule R271). -/
def sreValue (m : Byte) (_ : State) : Byte := (lsr m).value

/-- C of the shift, then EOR of its result (rule R271). -/
def sreEffect (m : Byte) (s : State) : State :=
  State.setZN (State.setFlag { s with a := s.a ^^^ (lsr m).value } .C (lsr m).carry) (s.a ^^^ (lsr m).value)

/-- The byte rotated right (rule R272). -/
def rraValue (m : Byte) (s : State) : Byte := (ror m (s.flag .C)).value

/-- C of the rotate, then ADC of its result with that carry (rule R272). -/
def rraEffect (m : Byte) (s : State) : State :=
  let r := ror m (s.flag .C)
  addToA r.value (s.setFlag .C r.carry)

/-- `A <- A & M; setZN(A); P.C <- A[7]` (rule R273). -/
def ancEffect (m : Byte) (s : State) : State :=
  State.setFlag (State.setZN { s with a := s.a &&& m } (s.a &&& m)) .C ((s.a &&& m).getLsbD 7)

/-- `t <- A & M`, shifted right into A with C, Z, N (rule R274). -/
def alrEffect (m : Byte) (s : State) : State :=
  State.setShiftFlags { s with a := (lsr (s.a &&& m)).value } (lsr (s.a &&& m))

/-- `t <- A & M`, rotated right into A; `C <- r[6]`, `V <- r[6] ^ r[5]` (rule R275, D15, assumption log 17). -/
def arrEffect (m : Byte) (s : State) : State :=
  let r := (ror (s.a &&& m) (s.flag .C)).value
  State.setFlag (State.setFlag (State.setZN { s with a := r } r) .C (r.getLsbD 6)) .V (r.getLsbD 6 ^^ r.getLsbD 5)

/-- `t <- A & X; X <- u8(t - M); P.C <- (t >= M); setZN(X)` (rule R276). -/
def axsEffect (m : Byte) (s : State) : State :=
  compareReg (s.a &&& s.x) m { s with x := (s.a &&& s.x) - m }

/-- `r <- M & SP`, into A, X and SP (rule R278). -/
def lasEffect (m : Byte) (s : State) : State :=
  State.setZN { s with a := m &&& s.sp, x := m &&& s.sp, sp := m &&& s.sp } (m &&& s.sp)

/-! ### Meanings -/

/-- `LAX ($nn,X)` (0xA3), rule R265. -/
def execLaxIndX (z : Byte) (s : State) : Result := readInstr 0xA3 (.indirectX z) laxEffect s

/-- `LAX $nn` (0xA7), rule R265. -/
def execLaxZp (z : Byte) (s : State) : Result := readInstr 0xA7 (.zeroPage z) laxEffect s

/-- `LAX $nnnn` (0xAF), rule R265. -/
def execLaxAbs (a : Addr) (s : State) : Result := readInstr 0xAF (.absolute a) laxEffect s

/-- `LAX ($nn),Y` (0xB3), rule R265. -/
def execLaxIndY (z : Byte) (s : State) : Result := readInstr 0xB3 (.indirectY z) laxEffect s

/-- `LAX $nn,Y` (0xB7), rule R265. -/
def execLaxZpY (z : Byte) (s : State) : Result := readInstr 0xB7 (.zeroPageY z) laxEffect s

/-- `LAX $nnnn,Y` (0xBF), rule R265. -/
def execLaxAbsY (a : Addr) (s : State) : Result := readInstr 0xBF (.absoluteY a) laxEffect s

/-- `SAX ($nn,X)` (0x83), rule R266. -/
def execSaxIndX (z : Byte) (s : State) : Result := storeInstr 0x83 (.indirectX z) saxValue s

/-- `SAX $nn` (0x87), rule R266. -/
def execSaxZp (z : Byte) (s : State) : Result := storeInstr 0x87 (.zeroPage z) saxValue s

/-- `SAX $nnnn` (0x8F), rule R266. -/
def execSaxAbs (a : Addr) (s : State) : Result := storeInstr 0x8F (.absolute a) saxValue s

/-- `SAX $nn,Y` (0x97), rule R266. -/
def execSaxZpY (z : Byte) (s : State) : Result := storeInstr 0x97 (.zeroPageY z) saxValue s

/-- `DCP ($nn,X)` (0xC3), rule R267. -/
def execDcpIndX (z : Byte) (s : State) : Result := modifyInstr 0xC3 (.indirectX z) dcpValue dcpEffect s

/-- `DCP $nn` (0xC7), rule R267. -/
def execDcpZp (z : Byte) (s : State) : Result := modifyInstr 0xC7 (.zeroPage z) dcpValue dcpEffect s

/-- `DCP $nnnn` (0xCF), rule R267. -/
def execDcpAbs (a : Addr) (s : State) : Result := modifyInstr 0xCF (.absolute a) dcpValue dcpEffect s

/-- `DCP ($nn),Y` (0xD3), rule R267. -/
def execDcpIndY (z : Byte) (s : State) : Result := modifyInstr 0xD3 (.indirectY z) dcpValue dcpEffect s

/-- `DCP $nn,X` (0xD7), rule R267. -/
def execDcpZpX (z : Byte) (s : State) : Result := modifyInstr 0xD7 (.zeroPageX z) dcpValue dcpEffect s

/-- `DCP $nnnn,Y` (0xDB), rule R267. -/
def execDcpAbsY (a : Addr) (s : State) : Result := modifyInstr 0xDB (.absoluteY a) dcpValue dcpEffect s

/-- `DCP $nnnn,X` (0xDF), rule R267. -/
def execDcpAbsX (a : Addr) (s : State) : Result := modifyInstr 0xDF (.absoluteX a) dcpValue dcpEffect s

/-- `ISB ($nn,X)` (0xE3), rule R268. -/
def execIsbIndX (z : Byte) (s : State) : Result := modifyInstr 0xE3 (.indirectX z) isbValue isbEffect s

/-- `ISB $nn` (0xE7), rule R268. -/
def execIsbZp (z : Byte) (s : State) : Result := modifyInstr 0xE7 (.zeroPage z) isbValue isbEffect s

/-- `ISB $nnnn` (0xEF), rule R268. -/
def execIsbAbs (a : Addr) (s : State) : Result := modifyInstr 0xEF (.absolute a) isbValue isbEffect s

/-- `ISB ($nn),Y` (0xF3), rule R268. -/
def execIsbIndY (z : Byte) (s : State) : Result := modifyInstr 0xF3 (.indirectY z) isbValue isbEffect s

/-- `ISB $nn,X` (0xF7), rule R268. -/
def execIsbZpX (z : Byte) (s : State) : Result := modifyInstr 0xF7 (.zeroPageX z) isbValue isbEffect s

/-- `ISB $nnnn,Y` (0xFB), rule R268. -/
def execIsbAbsY (a : Addr) (s : State) : Result := modifyInstr 0xFB (.absoluteY a) isbValue isbEffect s

/-- `ISB $nnnn,X` (0xFF), rule R268. -/
def execIsbAbsX (a : Addr) (s : State) : Result := modifyInstr 0xFF (.absoluteX a) isbValue isbEffect s

/-- `SLO ($nn,X)` (0x03), rule R269. -/
def execSloIndX (z : Byte) (s : State) : Result := modifyInstr 0x03 (.indirectX z) sloValue sloEffect s

/-- `SLO $nn` (0x07), rule R269. -/
def execSloZp (z : Byte) (s : State) : Result := modifyInstr 0x07 (.zeroPage z) sloValue sloEffect s

/-- `SLO $nnnn` (0x0F), rule R269. -/
def execSloAbs (a : Addr) (s : State) : Result := modifyInstr 0x0F (.absolute a) sloValue sloEffect s

/-- `SLO ($nn),Y` (0x13), rule R269. -/
def execSloIndY (z : Byte) (s : State) : Result := modifyInstr 0x13 (.indirectY z) sloValue sloEffect s

/-- `SLO $nn,X` (0x17), rule R269. -/
def execSloZpX (z : Byte) (s : State) : Result := modifyInstr 0x17 (.zeroPageX z) sloValue sloEffect s

/-- `SLO $nnnn,Y` (0x1B), rule R269. -/
def execSloAbsY (a : Addr) (s : State) : Result := modifyInstr 0x1B (.absoluteY a) sloValue sloEffect s

/-- `SLO $nnnn,X` (0x1F), rule R269. -/
def execSloAbsX (a : Addr) (s : State) : Result := modifyInstr 0x1F (.absoluteX a) sloValue sloEffect s

/-- `RLA ($nn,X)` (0x23), rule R270. -/
def execRlaIndX (z : Byte) (s : State) : Result := modifyInstr 0x23 (.indirectX z) rlaValue rlaEffect s

/-- `RLA $nn` (0x27), rule R270. -/
def execRlaZp (z : Byte) (s : State) : Result := modifyInstr 0x27 (.zeroPage z) rlaValue rlaEffect s

/-- `RLA $nnnn` (0x2F), rule R270. -/
def execRlaAbs (a : Addr) (s : State) : Result := modifyInstr 0x2F (.absolute a) rlaValue rlaEffect s

/-- `RLA ($nn),Y` (0x33), rule R270. -/
def execRlaIndY (z : Byte) (s : State) : Result := modifyInstr 0x33 (.indirectY z) rlaValue rlaEffect s

/-- `RLA $nn,X` (0x37), rule R270. -/
def execRlaZpX (z : Byte) (s : State) : Result := modifyInstr 0x37 (.zeroPageX z) rlaValue rlaEffect s

/-- `RLA $nnnn,Y` (0x3B), rule R270. -/
def execRlaAbsY (a : Addr) (s : State) : Result := modifyInstr 0x3B (.absoluteY a) rlaValue rlaEffect s

/-- `RLA $nnnn,X` (0x3F), rule R270. -/
def execRlaAbsX (a : Addr) (s : State) : Result := modifyInstr 0x3F (.absoluteX a) rlaValue rlaEffect s

/-- `SRE ($nn,X)` (0x43), rule R271. -/
def execSreIndX (z : Byte) (s : State) : Result := modifyInstr 0x43 (.indirectX z) sreValue sreEffect s

/-- `SRE $nn` (0x47), rule R271. -/
def execSreZp (z : Byte) (s : State) : Result := modifyInstr 0x47 (.zeroPage z) sreValue sreEffect s

/-- `SRE $nnnn` (0x4F), rule R271. -/
def execSreAbs (a : Addr) (s : State) : Result := modifyInstr 0x4F (.absolute a) sreValue sreEffect s

/-- `SRE ($nn),Y` (0x53), rule R271. -/
def execSreIndY (z : Byte) (s : State) : Result := modifyInstr 0x53 (.indirectY z) sreValue sreEffect s

/-- `SRE $nn,X` (0x57), rule R271. -/
def execSreZpX (z : Byte) (s : State) : Result := modifyInstr 0x57 (.zeroPageX z) sreValue sreEffect s

/-- `SRE $nnnn,Y` (0x5B), rule R271. -/
def execSreAbsY (a : Addr) (s : State) : Result := modifyInstr 0x5B (.absoluteY a) sreValue sreEffect s

/-- `SRE $nnnn,X` (0x5F), rule R271. -/
def execSreAbsX (a : Addr) (s : State) : Result := modifyInstr 0x5F (.absoluteX a) sreValue sreEffect s

/-- `RRA ($nn,X)` (0x63), rule R272. -/
def execRraIndX (z : Byte) (s : State) : Result := modifyInstr 0x63 (.indirectX z) rraValue rraEffect s

/-- `RRA $nn` (0x67), rule R272. -/
def execRraZp (z : Byte) (s : State) : Result := modifyInstr 0x67 (.zeroPage z) rraValue rraEffect s

/-- `RRA $nnnn` (0x6F), rule R272. -/
def execRraAbs (a : Addr) (s : State) : Result := modifyInstr 0x6F (.absolute a) rraValue rraEffect s

/-- `RRA ($nn),Y` (0x73), rule R272. -/
def execRraIndY (z : Byte) (s : State) : Result := modifyInstr 0x73 (.indirectY z) rraValue rraEffect s

/-- `RRA $nn,X` (0x77), rule R272. -/
def execRraZpX (z : Byte) (s : State) : Result := modifyInstr 0x77 (.zeroPageX z) rraValue rraEffect s

/-- `RRA $nnnn,Y` (0x7B), rule R272. -/
def execRraAbsY (a : Addr) (s : State) : Result := modifyInstr 0x7B (.absoluteY a) rraValue rraEffect s

/-- `RRA $nnnn,X` (0x7F), rule R272. -/
def execRraAbsX (a : Addr) (s : State) : Result := modifyInstr 0x7F (.absoluteX a) rraValue rraEffect s

/-- `ANC #$nn` (0x0B), rule R273. -/
def execAnc0BImm (b : Byte) (s : State) : Result := readInstr 0x0B (.immediate b) ancEffect s

/-- `ANC #$nn` (0x2B), rule R273. -/
def execAnc2BImm (b : Byte) (s : State) : Result := readInstr 0x2B (.immediate b) ancEffect s

/-- `ALR #$nn` (0x4B), rule R274. -/
def execAlrImm (b : Byte) (s : State) : Result := readInstr 0x4B (.immediate b) alrEffect s

/-- `ARR #$nn` (0x6B), rule R275. -/
def execArrImm (b : Byte) (s : State) : Result := readInstr 0x6B (.immediate b) arrEffect s

/-- `AXS #$nn` (0xCB), rule R276. -/
def execAxsImm (b : Byte) (s : State) : Result := readInstr 0xCB (.immediate b) axsEffect s

/-- `LAS $nnnn,Y` (0xBB), rule R278. -/
def execLasAbsY (a : Addr) (s : State) : Result := readInstr 0xBB (.absoluteY a) lasEffect s

end Sys2Proof.Machine
end

