-- ==== Sys2Proof/Machine/Unstable.lean ====
section
/-! DEFINITION. The unstable undocumented opcodes, refused unless `ADMIT_UNSTABLE` (rules R279 to R285). -/

namespace Sys2Proof.Machine

/-! ### Admission -/

/-- The instruction's result if unstable opcodes are admitted, else a refusal of its byte (rule R279, assumption log 6). -/
def ifAdmitted (op : Byte) (r : Result) (s : State) : Result :=
  if s.config.admitUnstable then r else .refused (.unstableOpcode op)

/-! ### Effects -/

/-- `A <- (A | XAA_MAGIC) & X & M; setZN(A)` (rule R280). -/
def xaaEffect (m : Byte) (s : State) : State :=
  let r := (s.a ||| s.config.xaaMagic) &&& s.x &&& m
  State.setZN { s with a := r } r

/-- `r <- (A | LXA_MAGIC) & M`, into A and X (rule R281). -/
def lxaEffect (m : Byte) (s : State) : State :=
  let r := (s.a ||| s.config.lxaMagic) &&& m
  State.setZN { s with a := r, x := r } r

/-- The target `T` of rule R282: `EA`, or on a page crossing the stored byte over `EA`'s low byte (D25, assumption
log 18). -/
def highTarget (base ea : Addr) (v : Byte) : Addr := if hi8 base = hi8 ea then ea else word16 v (lo8 ea)

/-- The store of rules R282 to R285: a register value masked by the base's high byte plus 1, to `T`. -/
def storeHigh (op : Byte) (o : Operand) (value : State → Byte) (s : State) : Result :=
  complete op s (do
    let (base, s) ← resolveBase o s
    let v := value s &&& (hi8 base + 1)
    let s ← write8 .dataWrite (highTarget base (base + indexOf o s) v) v s
    .ok (s.advance o.size))

/-- What SHA masks and stores (rule R282). -/
def shaValue (s : State) : Byte := s.a &&& s.x

/-- `SP <- A & X` (rule R283). -/
def tasEffect (s : State) : State := { s with sp := s.a &&& s.x }

/-- What TAS masks and stores (rule R283). -/
def tasValue (s : State) : Byte := s.sp

/-- What SHY masks and stores (rule R284). -/
def shyValue (s : State) : Byte := s.y

/-- What SHX masks and stores (rule R285). -/
def shxValue (s : State) : Byte := s.x

/-! ### Meanings -/

/-- `XAA #$nn` (0x8B), rule R280. -/
def execXaaImm (b : Byte) (s : State) : Result := ifAdmitted 0x8B (readInstr 0x8B (.immediate b) xaaEffect s) s

/-- `LXA #$nn` (0xAB), rule R281. -/
def execLxaImm (b : Byte) (s : State) : Result := ifAdmitted 0xAB (readInstr 0xAB (.immediate b) lxaEffect s) s

/-- `SHA ($nn),Y` (0x93), rule R282. -/
def execShaIndY (z : Byte) (s : State) : Result := ifAdmitted 0x93 (storeHigh 0x93 (.indirectY z) shaValue s) s

/-- `SHA $nnnn,Y` (0x9F), rule R282. -/
def execShaAbsY (a : Addr) (s : State) : Result := ifAdmitted 0x9F (storeHigh 0x9F (.absoluteY a) shaValue s) s

/-- `TAS $nnnn,Y` (0x9B), rule R283. -/
def execTasAbsY (a : Addr) (s : State) : Result :=
  ifAdmitted 0x9B (storeHigh 0x9B (.absoluteY a) tasValue (tasEffect s)) s

/-- `SHY $nnnn,X` (0x9C), rule R284. -/
def execShyAbsX (a : Addr) (s : State) : Result := ifAdmitted 0x9C (storeHigh 0x9C (.absoluteX a) shyValue s) s

/-- `SHX $nnnn,Y` (0x9E), rule R285. -/
def execShxAbsY (a : Addr) (s : State) : Result := ifAdmitted 0x9E (storeHigh 0x9E (.absoluteY a) shxValue s) s

end Sys2Proof.Machine
end

