-- ==== Sys2Proof/Machine/Dispatch.lean ====
section
/-! DEFINITION. The meaning of each instruction, one arm per constructor (rule R92: "dispatch is by opcode byte"). -/

namespace Sys2Proof.Machine

def exec (i : Instr) (s : State) : Host.Outcome State Fault Refusal :=
  match i with
  | .brk => Sys2Proof.Machine.execBrk s
  | .oraIndX z => Sys2Proof.Machine.execOraIndX z s
  | .kil02 => Sys2Proof.Machine.execKil02 s
  | .sloIndX z => Sys2Proof.Machine.execSloIndX z s
  | .nop04Zp z => Sys2Proof.Machine.execNop04Zp z s
  | .oraZp z => Sys2Proof.Machine.execOraZp z s
  | .aslZp z => Sys2Proof.Machine.execAslZp z s
  | .sloZp z => Sys2Proof.Machine.execSloZp z s
  | .php => Sys2Proof.Machine.execPhp s
  | .oraImm b => Sys2Proof.Machine.execOraImm b s
  | .aslA => Sys2Proof.Machine.execAslA s
  | .anc0BImm b => Sys2Proof.Machine.execAnc0BImm b s
  | .nop0CAbs a => Sys2Proof.Machine.execNop0CAbs a s
  | .oraAbs a => Sys2Proof.Machine.execOraAbs a s
  | .aslAbs a => Sys2Proof.Machine.execAslAbs a s
  | .sloAbs a => Sys2Proof.Machine.execSloAbs a s
  | .bpl r => Sys2Proof.Machine.execBpl r s
  | .oraIndY z => Sys2Proof.Machine.execOraIndY z s
  | .kil12 => Sys2Proof.Machine.execKil12 s
  | .sloIndY z => Sys2Proof.Machine.execSloIndY z s
  | .nop14ZpX z => Sys2Proof.Machine.execNop14ZpX z s
  | .oraZpX z => Sys2Proof.Machine.execOraZpX z s
  | .aslZpX z => Sys2Proof.Machine.execAslZpX z s
  | .sloZpX z => Sys2Proof.Machine.execSloZpX z s
  | .clc => Sys2Proof.Machine.execClc s
  | .oraAbsY a => Sys2Proof.Machine.execOraAbsY a s
  | .nop1A => Sys2Proof.Machine.execNop1A s
  | .sloAbsY a => Sys2Proof.Machine.execSloAbsY a s
  | .nop1CAbsX a => Sys2Proof.Machine.execNop1CAbsX a s
  | .oraAbsX a => Sys2Proof.Machine.execOraAbsX a s
  | .aslAbsX a => Sys2Proof.Machine.execAslAbsX a s
  | .sloAbsX a => Sys2Proof.Machine.execSloAbsX a s
  | .jsr a => Sys2Proof.Machine.execJsr a s
  | .andIndX z => Sys2Proof.Machine.execAndIndX z s
  | .kil22 => Sys2Proof.Machine.execKil22 s
  | .rlaIndX z => Sys2Proof.Machine.execRlaIndX z s
  | .bitZp z => Sys2Proof.Machine.execBitZp z s
  | .andZp z => Sys2Proof.Machine.execAndZp z s
  | .rolZp z => Sys2Proof.Machine.execRolZp z s
  | .rlaZp z => Sys2Proof.Machine.execRlaZp z s
  | .plp => Sys2Proof.Machine.execPlp s
  | .andImm b => Sys2Proof.Machine.execAndImm b s
  | .rolA => Sys2Proof.Machine.execRolA s
  | .anc2BImm b => Sys2Proof.Machine.execAnc2BImm b s
  | .bitAbs a => Sys2Proof.Machine.execBitAbs a s
  | .andAbs a => Sys2Proof.Machine.execAndAbs a s
  | .rolAbs a => Sys2Proof.Machine.execRolAbs a s
  | .rlaAbs a => Sys2Proof.Machine.execRlaAbs a s
  | .bmi r => Sys2Proof.Machine.execBmi r s
  | .andIndY z => Sys2Proof.Machine.execAndIndY z s
  | .kil32 => Sys2Proof.Machine.execKil32 s
  | .rlaIndY z => Sys2Proof.Machine.execRlaIndY z s
  | .nop34ZpX z => Sys2Proof.Machine.execNop34ZpX z s
  | .andZpX z => Sys2Proof.Machine.execAndZpX z s
  | .rolZpX z => Sys2Proof.Machine.execRolZpX z s
  | .rlaZpX z => Sys2Proof.Machine.execRlaZpX z s
  | .sec => Sys2Proof.Machine.execSec s
  | .andAbsY a => Sys2Proof.Machine.execAndAbsY a s
  | .nop3A => Sys2Proof.Machine.execNop3A s
  | .rlaAbsY a => Sys2Proof.Machine.execRlaAbsY a s
  | .nop3CAbsX a => Sys2Proof.Machine.execNop3CAbsX a s
  | .andAbsX a => Sys2Proof.Machine.execAndAbsX a s
  | .rolAbsX a => Sys2Proof.Machine.execRolAbsX a s
  | .rlaAbsX a => Sys2Proof.Machine.execRlaAbsX a s
  | .rti => Sys2Proof.Machine.execRti s
  | .eorIndX z => Sys2Proof.Machine.execEorIndX z s
  | .kil42 => Sys2Proof.Machine.execKil42 s
  | .sreIndX z => Sys2Proof.Machine.execSreIndX z s
  | .nop44Zp z => Sys2Proof.Machine.execNop44Zp z s
  | .eorZp z => Sys2Proof.Machine.execEorZp z s
  | .lsrZp z => Sys2Proof.Machine.execLsrZp z s
  | .sreZp z => Sys2Proof.Machine.execSreZp z s
  | .pha => Sys2Proof.Machine.execPha s
  | .eorImm b => Sys2Proof.Machine.execEorImm b s
  | .lsrA => Sys2Proof.Machine.execLsrA s
  | .alrImm b => Sys2Proof.Machine.execAlrImm b s
  | .jmpAbs a => Sys2Proof.Machine.execJmpAbs a s
  | .eorAbs a => Sys2Proof.Machine.execEorAbs a s
  | .lsrAbs a => Sys2Proof.Machine.execLsrAbs a s
  | .sreAbs a => Sys2Proof.Machine.execSreAbs a s
  | .bvc r => Sys2Proof.Machine.execBvc r s
  | .eorIndY z => Sys2Proof.Machine.execEorIndY z s
  | .kil52 => Sys2Proof.Machine.execKil52 s
  | .sreIndY z => Sys2Proof.Machine.execSreIndY z s
  | .nop54ZpX z => Sys2Proof.Machine.execNop54ZpX z s
  | .eorZpX z => Sys2Proof.Machine.execEorZpX z s
  | .lsrZpX z => Sys2Proof.Machine.execLsrZpX z s
  | .sreZpX z => Sys2Proof.Machine.execSreZpX z s
  | .cli => Sys2Proof.Machine.execCli s
  | .eorAbsY a => Sys2Proof.Machine.execEorAbsY a s
  | .nop5A => Sys2Proof.Machine.execNop5A s
  | .sreAbsY a => Sys2Proof.Machine.execSreAbsY a s
  | .nop5CAbsX a => Sys2Proof.Machine.execNop5CAbsX a s
  | .eorAbsX a => Sys2Proof.Machine.execEorAbsX a s
  | .lsrAbsX a => Sys2Proof.Machine.execLsrAbsX a s
  | .sreAbsX a => Sys2Proof.Machine.execSreAbsX a s
  | .rts => Sys2Proof.Machine.execRts s
  | .adcIndX z => Sys2Proof.Machine.execAdcIndX z s
  | .kil62 => Sys2Proof.Machine.execKil62 s
  | .rraIndX z => Sys2Proof.Machine.execRraIndX z s
  | .nop64Zp z => Sys2Proof.Machine.execNop64Zp z s
  | .adcZp z => Sys2Proof.Machine.execAdcZp z s
  | .rorZp z => Sys2Proof.Machine.execRorZp z s
  | .rraZp z => Sys2Proof.Machine.execRraZp z s
  | .pla => Sys2Proof.Machine.execPla s
  | .adcImm b => Sys2Proof.Machine.execAdcImm b s
  | .rorA => Sys2Proof.Machine.execRorA s
  | .arrImm b => Sys2Proof.Machine.execArrImm b s
  | .jmpInd a => Sys2Proof.Machine.execJmpInd a s
  | .adcAbs a => Sys2Proof.Machine.execAdcAbs a s
  | .rorAbs a => Sys2Proof.Machine.execRorAbs a s
  | .rraAbs a => Sys2Proof.Machine.execRraAbs a s
  | .bvs r => Sys2Proof.Machine.execBvs r s
  | .adcIndY z => Sys2Proof.Machine.execAdcIndY z s
  | .kil72 => Sys2Proof.Machine.execKil72 s
  | .rraIndY z => Sys2Proof.Machine.execRraIndY z s
  | .nop74ZpX z => Sys2Proof.Machine.execNop74ZpX z s
  | .adcZpX z => Sys2Proof.Machine.execAdcZpX z s
  | .rorZpX z => Sys2Proof.Machine.execRorZpX z s
  | .rraZpX z => Sys2Proof.Machine.execRraZpX z s
  | .sei => Sys2Proof.Machine.execSei s
  | .adcAbsY a => Sys2Proof.Machine.execAdcAbsY a s
  | .nop7A => Sys2Proof.Machine.execNop7A s
  | .rraAbsY a => Sys2Proof.Machine.execRraAbsY a s
  | .nop7CAbsX a => Sys2Proof.Machine.execNop7CAbsX a s
  | .adcAbsX a => Sys2Proof.Machine.execAdcAbsX a s
  | .rorAbsX a => Sys2Proof.Machine.execRorAbsX a s
  | .rraAbsX a => Sys2Proof.Machine.execRraAbsX a s
  | .nop80Imm b => Sys2Proof.Machine.execNop80Imm b s
  | .staIndX z => Sys2Proof.Machine.execStaIndX z s
  | .nop82Imm b => Sys2Proof.Machine.execNop82Imm b s
  | .saxIndX z => Sys2Proof.Machine.execSaxIndX z s
  | .styZp z => Sys2Proof.Machine.execStyZp z s
  | .staZp z => Sys2Proof.Machine.execStaZp z s
  | .stxZp z => Sys2Proof.Machine.execStxZp z s
  | .saxZp z => Sys2Proof.Machine.execSaxZp z s
  | .dey => Sys2Proof.Machine.execDey s
  | .nop89Imm b => Sys2Proof.Machine.execNop89Imm b s
  | .txa => Sys2Proof.Machine.execTxa s
  | .xaaImm b => Sys2Proof.Machine.execXaaImm b s
  | .styAbs a => Sys2Proof.Machine.execStyAbs a s
  | .staAbs a => Sys2Proof.Machine.execStaAbs a s
  | .stxAbs a => Sys2Proof.Machine.execStxAbs a s
  | .saxAbs a => Sys2Proof.Machine.execSaxAbs a s
  | .bcc r => Sys2Proof.Machine.execBcc r s
  | .staIndY z => Sys2Proof.Machine.execStaIndY z s
  | .kil92 => Sys2Proof.Machine.execKil92 s
  | .shaIndY z => Sys2Proof.Machine.execShaIndY z s
  | .styZpX z => Sys2Proof.Machine.execStyZpX z s
  | .staZpX z => Sys2Proof.Machine.execStaZpX z s
  | .stxZpY z => Sys2Proof.Machine.execStxZpY z s
  | .saxZpY z => Sys2Proof.Machine.execSaxZpY z s
  | .tya => Sys2Proof.Machine.execTya s
  | .staAbsY a => Sys2Proof.Machine.execStaAbsY a s
  | .txs => Sys2Proof.Machine.execTxs s
  | .tasAbsY a => Sys2Proof.Machine.execTasAbsY a s
  | .shyAbsX a => Sys2Proof.Machine.execShyAbsX a s
  | .staAbsX a => Sys2Proof.Machine.execStaAbsX a s
  | .shxAbsY a => Sys2Proof.Machine.execShxAbsY a s
  | .shaAbsY a => Sys2Proof.Machine.execShaAbsY a s
  | .ldyImm b => Sys2Proof.Machine.execLdyImm b s
  | .ldaIndX z => Sys2Proof.Machine.execLdaIndX z s
  | .ldxImm b => Sys2Proof.Machine.execLdxImm b s
  | .laxIndX z => Sys2Proof.Machine.execLaxIndX z s
  | .ldyZp z => Sys2Proof.Machine.execLdyZp z s
  | .ldaZp z => Sys2Proof.Machine.execLdaZp z s
  | .ldxZp z => Sys2Proof.Machine.execLdxZp z s
  | .laxZp z => Sys2Proof.Machine.execLaxZp z s
  | .tay => Sys2Proof.Machine.execTay s
  | .ldaImm b => Sys2Proof.Machine.execLdaImm b s
  | .tax => Sys2Proof.Machine.execTax s
  | .lxaImm b => Sys2Proof.Machine.execLxaImm b s
  | .ldyAbs a => Sys2Proof.Machine.execLdyAbs a s
  | .ldaAbs a => Sys2Proof.Machine.execLdaAbs a s
  | .ldxAbs a => Sys2Proof.Machine.execLdxAbs a s
  | .laxAbs a => Sys2Proof.Machine.execLaxAbs a s
  | .bcs r => Sys2Proof.Machine.execBcs r s
  | .ldaIndY z => Sys2Proof.Machine.execLdaIndY z s
  | .kilB2 => Sys2Proof.Machine.execKilB2 s
  | .laxIndY z => Sys2Proof.Machine.execLaxIndY z s
  | .ldyZpX z => Sys2Proof.Machine.execLdyZpX z s
  | .ldaZpX z => Sys2Proof.Machine.execLdaZpX z s
  | .ldxZpY z => Sys2Proof.Machine.execLdxZpY z s
  | .laxZpY z => Sys2Proof.Machine.execLaxZpY z s
  | .clv => Sys2Proof.Machine.execClv s
  | .ldaAbsY a => Sys2Proof.Machine.execLdaAbsY a s
  | .tsx => Sys2Proof.Machine.execTsx s
  | .lasAbsY a => Sys2Proof.Machine.execLasAbsY a s
  | .ldyAbsX a => Sys2Proof.Machine.execLdyAbsX a s
  | .ldaAbsX a => Sys2Proof.Machine.execLdaAbsX a s
  | .ldxAbsY a => Sys2Proof.Machine.execLdxAbsY a s
  | .laxAbsY a => Sys2Proof.Machine.execLaxAbsY a s
  | .cpyImm b => Sys2Proof.Machine.execCpyImm b s
  | .cmpIndX z => Sys2Proof.Machine.execCmpIndX z s
  | .nopC2Imm b => Sys2Proof.Machine.execNopC2Imm b s
  | .dcpIndX z => Sys2Proof.Machine.execDcpIndX z s
  | .cpyZp z => Sys2Proof.Machine.execCpyZp z s
  | .cmpZp z => Sys2Proof.Machine.execCmpZp z s
  | .decZp z => Sys2Proof.Machine.execDecZp z s
  | .dcpZp z => Sys2Proof.Machine.execDcpZp z s
  | .iny => Sys2Proof.Machine.execIny s
  | .cmpImm b => Sys2Proof.Machine.execCmpImm b s
  | .dex => Sys2Proof.Machine.execDex s
  | .axsImm b => Sys2Proof.Machine.execAxsImm b s
  | .cpyAbs a => Sys2Proof.Machine.execCpyAbs a s
  | .cmpAbs a => Sys2Proof.Machine.execCmpAbs a s
  | .decAbs a => Sys2Proof.Machine.execDecAbs a s
  | .dcpAbs a => Sys2Proof.Machine.execDcpAbs a s
  | .bne r => Sys2Proof.Machine.execBne r s
  | .cmpIndY z => Sys2Proof.Machine.execCmpIndY z s
  | .kilD2 => Sys2Proof.Machine.execKilD2 s
  | .dcpIndY z => Sys2Proof.Machine.execDcpIndY z s
  | .nopD4ZpX z => Sys2Proof.Machine.execNopD4ZpX z s
  | .cmpZpX z => Sys2Proof.Machine.execCmpZpX z s
  | .decZpX z => Sys2Proof.Machine.execDecZpX z s
  | .dcpZpX z => Sys2Proof.Machine.execDcpZpX z s
  | .cld => Sys2Proof.Machine.execCld s
  | .cmpAbsY a => Sys2Proof.Machine.execCmpAbsY a s
  | .nopDA => Sys2Proof.Machine.execNopDA s
  | .dcpAbsY a => Sys2Proof.Machine.execDcpAbsY a s
  | .nopDCAbsX a => Sys2Proof.Machine.execNopDCAbsX a s
  | .cmpAbsX a => Sys2Proof.Machine.execCmpAbsX a s
  | .decAbsX a => Sys2Proof.Machine.execDecAbsX a s
  | .dcpAbsX a => Sys2Proof.Machine.execDcpAbsX a s
  | .cpxImm b => Sys2Proof.Machine.execCpxImm b s
  | .sbcIndX z => Sys2Proof.Machine.execSbcIndX z s
  | .nopE2Imm b => Sys2Proof.Machine.execNopE2Imm b s
  | .isbIndX z => Sys2Proof.Machine.execIsbIndX z s
  | .cpxZp z => Sys2Proof.Machine.execCpxZp z s
  | .sbcZp z => Sys2Proof.Machine.execSbcZp z s
  | .incZp z => Sys2Proof.Machine.execIncZp z s
  | .isbZp z => Sys2Proof.Machine.execIsbZp z s
  | .inx => Sys2Proof.Machine.execInx s
  | .sbcImm b => Sys2Proof.Machine.execSbcImm b s
  | .nopEA => Sys2Proof.Machine.execNopEA s
  | .sbcEBImm b => Sys2Proof.Machine.execSbcEBImm b s
  | .cpxAbs a => Sys2Proof.Machine.execCpxAbs a s
  | .sbcAbs a => Sys2Proof.Machine.execSbcAbs a s
  | .incAbs a => Sys2Proof.Machine.execIncAbs a s
  | .isbAbs a => Sys2Proof.Machine.execIsbAbs a s
  | .beq r => Sys2Proof.Machine.execBeq r s
  | .sbcIndY z => Sys2Proof.Machine.execSbcIndY z s
  | .kilF2 => Sys2Proof.Machine.execKilF2 s
  | .isbIndY z => Sys2Proof.Machine.execIsbIndY z s
  | .nopF4ZpX z => Sys2Proof.Machine.execNopF4ZpX z s
  | .sbcZpX z => Sys2Proof.Machine.execSbcZpX z s
  | .incZpX z => Sys2Proof.Machine.execIncZpX z s
  | .isbZpX z => Sys2Proof.Machine.execIsbZpX z s
  | .sed => Sys2Proof.Machine.execSed s
  | .sbcAbsY a => Sys2Proof.Machine.execSbcAbsY a s
  | .nopFA => Sys2Proof.Machine.execNopFA s
  | .isbAbsY a => Sys2Proof.Machine.execIsbAbsY a s
  | .nopFCAbsX a => Sys2Proof.Machine.execNopFCAbsX a s
  | .sbcAbsX a => Sys2Proof.Machine.execSbcAbsX a s
  | .incAbsX a => Sys2Proof.Machine.execIncAbsX a s
  | .isbAbsX a => Sys2Proof.Machine.execIsbAbsX a s

end Sys2Proof.Machine
end

