-- ==== Sys2Proof/Machine/Fetch.lean ====
section
/-! DEFINITION. Fetching and decoding one instruction (rules R95, R96, R325). -/

namespace Sys2Proof.Machine

/-- What fetching an instruction answers: the instruction, with the state its body begins in (`PC` at `opaddr + 1`, every
instruction byte read), or why the step ends without a body. -/
inductive Fetched where
  | decoded (i : Instr) (s : State)
  | stop (r : Result)

/-- Read an instruction's operand bytes, `PC` at the first of them: an immediate byte as data, since it is the body that
reads it (rule R99, assumption log 13), the others as operand bytes in ascending order (rule R75). -/
def fetchOperand (f : Form) (s : State) : Except BusFault (List Byte × State) :=
  match f with
  | .implied _ => .ok ([], s)
  | .immediate _ => do
    let (b, s) ← read8 .dataRead s.pc s
    .ok ([b], s)
  | .byte _ => do
    let (b, s) ← read8 .operand s.pc s
    .ok ([b], s)
  | .word _ => do
    let (lo, s) ← read8 .operand s.pc s
    let (hi, s) ← read8 .operand (s.pc + 1) s
    .ok ([lo, hi], s)

/-- Steps 1 to 4 of the fetch protocol (rule R95), in the priority of rule R325: the opcode read, the refusal of an unstable
opcode, then the operand bytes. -/
def fetch (s : State) : Fetched :=
  match read8 .fetch s.pc s with
  | .error f => .stop (raiseFatal s.pc none f)
  | .ok (op, t) =>
    match form op with
    | none => .stop (raiseFatal s.pc (some op) ⟨.unknownOpcode, s.pc, none, t.history⟩)
    | some f =>
      if isUnstable op && !s.config.admitUnstable then .stop (.refused (.unstableOpcode op))
      else
        match fetchOperand f { t with pc := t.pc + 1 } with
        | .error e => .stop (raiseFatal s.pc (some op) e)
        | .ok (bytes, u) =>
          match decode (op :: bytes) with
          | .instr i _ => .decoded i u
          | .rejected _ => .stop (raiseFatal s.pc (some op) ⟨.unknownOpcode, s.pc, none, u.history⟩)

/-- Place a byte where a read of `addr` finds it, with no bus access: in RAM or in the cartridge image. An address that no
storage backs is left as it is. -/
def State.place (s : State) (addr : Addr) (v : Byte) : State :=
  match busDecode s.prgSize addr with
  | .ram i => { s with ram := Memory.set s.ram i v }
  | .prg i => { s with prg := Memory.set s.prg i v }
  | .ppu _ => s
  | .unmapped => s

/-- Place consecutive bytes. -/
def State.placeBytes (s : State) (addr : Addr) (bytes : List Byte) : State :=
  match bytes with
  | [] => s
  | v :: rest => State.placeBytes (s.place addr v) (addr + 1) rest

/-- An address that RAM or PRG backs. -/
def isBacked (z : PrgSize) (addr : Addr) : Bool :=
  match busDecode z addr with
  | .ram _ => true
  | .prg _ => true
  | .ppu _ => false
  | .unmapped => false

/-- Where the next instruction can be placed: at `PC` if three bytes from there are backed by storage, else at 0x0000
(assumption log 19). -/
def placementPc (s : State) : Addr :=
  if isBacked s.prgSize s.pc && isBacked s.prgSize (s.pc + 1) && isBacked s.prgSize (s.pc + 2) then s.pc else 0x0000

/-- Place an instruction's bytes where the next step fetches them, in a running machine (assumption log 19). -/
def State.placeInstr (s : State) (bytes : List Byte) : State :=
  State.placeBytes { s with pc := placementPc s, status := .running } (placementPc s) bytes

end Sys2Proof.Machine
end

