-- ==== Sys2Proof/Machine/Step.lean ====
section
/-! DEFINITION. One step of the core: one instruction (rules R94, R95). -/

namespace Sys2Proof.Machine

/-- One step: fetch, decode, execute. "No step leaves a halted, faulted or refused status" (rule R37), so a step is
admitted only while the run status is Running (assumption log 11). -/
def step (s : State) : Host.Outcome State Fault Refusal :=
  match s.status with
  | .running =>
    match fetch s with
    | .decoded i t => exec i t
    | .stop r => r
  | .constructed => .refused (.notAdmitted s.status)
  | .ready => .refused (.notAdmitted s.status)
  | .halted _ => .refused (.notAdmitted s.status)
  | .faulted _ => .refused (.notAdmitted s.status)
  | .refused _ => .refused (.notAdmitted s.status)

/-- The state with a table row's bits placed as its next instruction (assumption log 19). -/
def State.withFetchWord (s : State) (nbits w : Nat) : State := s.placeInstr (tableBytes nbits w)

end Sys2Proof.Machine
end

