-- ==== Sys2Proof/Machine/HostControl.lean ====
section
/-! DEFINITION. What the host does to the machine between runs: construction, `reset()`, `run(callback)`
(rules R9, R340 to R346). -/

namespace Sys2Proof.Machine

/-- Construction (rule R340): the cartridge image, `RAM_INIT`, the oracle's ready answers and the parameters. The registers
are unspecified until `reset()` (rule R40): zero here, with a status that admits no run (assumption log 16). -/
def construct (image : List Byte) (ramInit : Vector Byte 2048) (script : List PpuAnswer) (config : Config) : Result :=
  if imageWellFormed image then
    .next
      { a := 0x00, x := 0x00, y := 0x00, sp := 0x00, pc := 0x0000, p := 0x00
        ram := Memory.ofBytes 0 ramInit.toList
        prg := Memory.ofBytes 0 image
        prgSize := if image.length = 16384 then .kib16 else .kib32
        status := .constructed
        history := []
        ppuScript := script
        config := config }
  else .refused (.imageLength image.length)

/-- What `reset()` writes before it reads the vector (rule R342). -/
def resetRegisters (s : State) : State :=
  { s with a := 0x00, x := 0x00, y := 0x00, p := 0x24, sp := s.config.spReset, status := .ready }

/-- The body of `reset()` (rules R342, R343): the two vector reads are its only accesses (D21). -/
def resetBody (s : State) : Result :=
  match read16 .vectorRead 0xFFFC (resetRegisters s) with
  | .ok (v, t) => .next { t with pc := v }
  | .error f => raiseFatal 0xFFFC none f

/-- `reset()`, which the host calls only while no run is executing and not after a fatal error or a refusal (rule R346,
assumption log 26). -/
def hostReset (s : State) : Result :=
  match s.status with
  | .constructed => resetBody s
  | .ready => resetBody s
  | .halted _ => resetBody s
  | .running => .refused (.notAdmitted s.status)
  | .faulted _ => .refused (.notAdmitted s.status)
  | .refused _ => .refused (.notAdmitted s.status)

/-- The start of `run(callback)` (rule R345): after a reset (rule R341), or again after a halt (rule R346). -/
def startRun (s : State) : Result :=
  match s.status with
  | .ready => .next { s with status := .running }
  | .halted _ => .next { s with status := .running }
  | .constructed => .refused (.notAdmitted s.status)
  | .running => .refused (.notAdmitted s.status)
  | .faulted _ => .refused (.notAdmitted s.status)
  | .refused _ => .refused (.notAdmitted s.status)

/-- The state `run` is left with after a step (rule R345): only the run status and the history say anything after a fatal
error or a refusal (rules R310, R311); the rest, which is not observable, is left as it was (assumption log 28). -/
def settle (s : State) (r : Result) : State :=
  match r with
  | .next t => t
  | .fault f => { s with status := .faulted f, history := f.history }
  | .refused (.unstableOpcode op) => { s with status := .refused op }
  | .refused _ => s

/-- At most `n` steps of `run(callback)`: the states the callback observes, one before each step (rule R322), and the state
the run is left in. A run ends at the first step whose outcome is not Continue (rule R352). -/
def run (n : Nat) (s : State) : List State × State :=
  match n with
  | 0 => ([], s)
  | n + 1 =>
    match s.status with
    | .running =>
      let rest := run n (settle s (step s))
      (s :: rest.1, rest.2)
    | .constructed => ([], s)
    | .ready => ([], s)
    | .halted _ => ([], s)
    | .faulted _ => ([], s)
    | .refused _ => ([], s)

end Sys2Proof.Machine
end

