-- ==== Sys2Proof/Safety.lean ====
section
/-! DEFINITION. The terms claims are stated in: the invariants of the state, what a bus access gives (rule R52), what an
instruction that reads, stores or modifies its operand does as a whole, the accesses an instruction makes, and how a run
ends. They say the spec's rules as properties; the machine computes them. -/

namespace Sys2Proof.Machine

/-- The memory arrays are in canonical form and within their lengths (rules R38, R57). -/
def State.memoryOk (s : State) : Bool :=
  Memory.wf s.ram && Memory.below ramLength s.ram && Memory.wf s.prg && Memory.below s.prgSize.length s.prg

/-- The invariants of rule R41 at an instruction boundary: B2 is 1, and B is 0 unless the run has halted on BRK with
`BRK_SETS_B`. DESIGN CHOICE (assumption log 27): "has halted on BRK" is read of the current status, so this is said of a run
from `reset()` to its halt. A run resumed after that halt (rule R346) begins with B still 1; `State.breakBitOk` covers it. -/
def State.statusBitsOk (s : State) : Bool :=
  s.flag .B2 && (!s.flag .B || (decide (s.status = .halted .brk) && s.config.brkSetsB))

/-- What of rule R41 also holds of a run resumed after a halt on BRK, where B stays 1 until PLP or RTI clears it: B2 is 1,
and B is 0 unless `BRK_SETS_B` (assumption log 27). -/
def State.breakBitOk (s : State) : Bool := s.flag .B2 && (!s.flag .B || s.config.brkSetsB)

/-- Two addresses name one byte of RAM (rule R53). -/
def sameRamByte (z : PrgSize) (a b : Addr) : Bool :=
  match busDecode z a, busDecode z b with
  | .ram i, .ram j => i == j
  | _, _ => false

/-- The run from `s` ends normally in `t`: on BRK or KIL, with no fatal error and no refusal (rules R310, R352). -/
def EndsNormally (s t : State) : Prop := ∃ n r, (run n s).2 = t ∧ t.status = .halted r

/-- The run from `s` ends in a fatal error (rules R311, R352). -/
def EndsFatally (s : State) (f : Fault) : Prop := ∃ n, (run n s).2.status = .faulted f

/-- The run from `s` ends in the refusal of an unstable opcode byte (rules R310, R352). -/
def EndsRefused (s : State) (op : Byte) : Prop := ∃ n, (run n s).2.status = .refused op

/-! ### What one bus access gives (rules R52, R55, R56) -/

/-- A read of `addr` gives `m` and leaves the oracle's ready answers `q`. -/
def ReadsAt (s : State) (addr : Addr) (m : Byte) (q : List PpuAnswer) : Prop :=
  match busDecode s.prgSize addr with
  | .ram i => m = Memory.get s.ram i ∧ q = s.ppuScript
  | .prg i => m = Memory.get s.prg i ∧ q = s.ppuScript
  | .unmapped => m = 0x00 ∧ q = s.ppuScript
  | .ppu r => ∃ call, r.readCall = some call ∧ s.ppuAnswer call = .done m ∧ q = s.ppuScript.tail

/-- A read of `addr` is fatal, with kind `k`. -/
def ReadStops (s : State) (addr : Addr) (k : FatalKind) : Prop :=
  match busDecode s.prgSize addr with
  | .ram _ => False
  | .prg _ => False
  | .unmapped => False
  | .ppu r => (r.readCall = none ∧ k = .writeOnlyRead) ∨
      ∃ call, r.readCall = some call ∧ s.ppuAnswer call = .fault ∧ k = .ppuFault

/-- A write of `v` to `addr` leaves RAM `ram'` and the oracle's ready answers `q`. -/
def WritesAt (s : State) (addr : Addr) (v : Byte) (ram' : Memory) (q : List PpuAnswer) : Prop :=
  match busDecode s.prgSize addr with
  | .ram i => ram' = Memory.set s.ram i v ∧ q = s.ppuScript
  | .prg _ => False
  | .unmapped => ram' = s.ram ∧ q = s.ppuScript
  | .ppu r => ram' = s.ram ∧
      ∃ call w, r.writeCall v = some call ∧ s.ppuAnswer call = .done w ∧ q = s.ppuScript.tail

/-- A write of `v` to `addr` is fatal, with kind `k`. -/
def WriteStops (s : State) (addr : Addr) (v : Byte) (k : FatalKind) : Prop :=
  match busDecode s.prgSize addr with
  | .ram _ => False
  | .prg _ => k = .romWrite
  | .unmapped => False
  | .ppu r => (r.writeCall v = none ∧ k = .ppuStatusWrite) ∨
      ∃ call, r.writeCall v = some call ∧ s.ppuAnswer call = .fault ∧ k = .ppuFault

/-- The call a read of `addr` relays, if any (rule R55). -/
def readCallAt (z : PrgSize) (addr : Addr) : Option PpuCall :=
  match busDecode z addr with
  | .ppu r => r.readCall
  | _ => none

/-- The call a write of `v` to `addr` relays, if any (rule R55). -/
def writeCallAt (z : PrgSize) (addr : Addr) (v : Byte) : Option PpuCall :=
  match busDecode z addr with
  | .ppu r => r.writeCall v
  | _ => none

/-- The events of a zero-page pointer's two reads, low byte first (rules R62, R75). -/
def pointerEvents (s : State) (z : Byte) : List BusEvent :=
  [{ kind := .pointer, addr := zext16 z, value := some (Memory.get s.ram z.toNat), call := none },
   { kind := .pointer, addr := zext16 (z + 1), value := some (Memory.get s.ram (z + 1).toNat), call := none }]

/-- The state after an operand's address is resolved: only the pointer reads of the indirect modes are accesses
(rules R99 to R107). -/
def State.afterPointers (s : State) (o : Operand) : State :=
  match o with
  | .indirectX z => { s with history := s.history ++ pointerEvents s (z + s.x) }
  | .indirectY z => { s with history := s.history ++ pointerEvents s z }
  | _ => s

/-- The state after a read of `addr`, of kind `k`, has given `m` and left the oracle's ready answers `q`. -/
def State.afterReadAs (s : State) (k : AccessKind) (addr : Addr) (m : Byte) (q : List PpuAnswer) : State :=
  { s with
    history := s.history ++ [{ kind := k, addr := addr, value := some m, call := readCallAt s.prgSize addr }]
    ppuScript := q }

/-- The state after a data read of `addr` has given `m`. -/
def State.afterRead (s : State) (addr : Addr) (m : Byte) (q : List PpuAnswer) : State := s.afterReadAs .dataRead addr m q

/-- The operand's byte `M` is `m` (rule R13): an immediate byte, or what the read at the effective address gives. -/
def OperandReads (o : Operand) (s : State) (m : Byte) (q : List PpuAnswer) : Prop :=
  match o with
  | .immediate b => m = b ∧ q = s.ppuScript
  | _ => ReadsAt (s.afterPointers o) (effectiveAddr o s) m q

/-- The read of the operand's byte is fatal. -/
def OperandStops (o : Operand) (s : State) (k : FatalKind) : Prop :=
  match o with
  | .immediate _ => False
  | _ => ReadStops (s.afterPointers o) (effectiveAddr o s) k

/-! ### What an instruction does with its operand (rules R97, R111, R311) -/

/-- The fault of `i`, begun in `s`, at a data access of `addr` (rule R311). -/
def dataFault (i : Instr) (s : State) (k : FatalKind) (addr : Addr) (access : AccessKind) (h : List BusEvent) : Fault :=
  Fault.ofKind k { opaddr := s.pc - 1, opcode := some i.opcode, addr := addr, access := some access } h

/-- `i` reads its operand and does `effect` with the byte: for every byte the operand gives it completes, with `PC` past the
operand and nothing else changed but the history and the oracle; where the read is fatal, the run ends with
its kind. -/
def ReadsOperand (i : Instr) (s : State) (effect : Byte → State) : Prop :=
  (∀ m q, OperandReads i.operand s m q →
    ∃ h, exec i s = .next { effect m with pc := s.pc + i.operand.size, history := h, ppuScript := q }) ∧
  (∀ k, OperandStops i.operand s k →
    ∃ f, exec i s = .fault f ∧ f.kind = k)

/-- `i` stores `v` at its effective address and does nothing else. -/
def StoresAtOperand (i : Instr) (s : State) (v : Byte) : Prop :=
  (∀ ram' q, WritesAt (s.afterPointers i.operand) (effectiveAddr i.operand s) v ram' q →
    ∃ h, exec i s = .next { s with ram := ram', pc := s.pc + i.operand.size, history := h, ppuScript := q }) ∧
  (∀ k, WriteStops (s.afterPointers i.operand) (effectiveAddr i.operand s) v k →
    ∃ f, exec i s = .fault f ∧ f.kind = k)

/-- `i` reads its operand, writes `value m` back, and then does `effect`. -/
def ModifiesOperand (i : Instr) (s : State) (value : Byte → Byte) (effect : Byte → State) : Prop :=
  (∀ m q, ReadsAt (s.afterPointers i.operand) (effectiveAddr i.operand s) m q →
    (∀ ram' q', WritesAt ((s.afterPointers i.operand).afterRead (effectiveAddr i.operand s) m q)
        (effectiveAddr i.operand s) (value m) ram' q' →
      ∃ h, exec i s =
        .next { effect m with ram := ram', pc := s.pc + i.operand.size, history := h, ppuScript := q' }) ∧
    (∀ k, WriteStops ((s.afterPointers i.operand).afterRead (effectiveAddr i.operand s) m q)
        (effectiveAddr i.operand s) (value m) k →
      ∃ f, exec i s = .fault f ∧ f.kind = k)) ∧
  (∀ k, ReadStops (s.afterPointers i.operand) (effectiveAddr i.operand s) k →
    ∃ f, exec i s = .fault f ∧ f.kind = k)

/-- The instructions of mnemonic `m` are those of the opcode bytes and modes of `rows`: its rule's Encoding line. -/
def EncodedAs (m : Mnemonic) (rows : List (Byte × AddrMode)) : Prop :=
  ∀ i : Instr, i.mnemonic = m ↔ (i.opcode, i.operand.mode) ∈ rows

/-- The reading mnemonics of rule R111; NOP reads in its forms with a mode. -/
def isReading (m : Mnemonic) : Bool :=
  m ∈ [.LDA, .LDX, .LDY, .ADC, .SBC, .AND, .ORA, .EOR, .CMP, .CPX, .CPY, .BIT, .LAX, .LAS, .ANC, .ALR, .ARR, .AXS,
    .XAA, .LXA, .NOP]

/-- The writing mnemonics of rule R111. -/
def isStoring (m : Mnemonic) : Bool :=
  m ∈ [.STA, .STX, .STY, .SAX, .SHA, .SHX, .SHY, .TAS]

/-- The read-modify-write mnemonics of rule R111; the shifts in their memory forms. -/
def isModifying (m : Mnemonic) : Bool :=
  m ∈ [.ASL, .LSR, .ROL, .ROR, .INC, .DEC, .SLO, .RLA, .SRE, .RRA, .DCP, .ISB]

/-- The unstable mnemonics whose store goes to the target `T` of rule R282. -/
def isHighStore (m : Mnemonic) : Bool := m ∈ [.SHA, .SHX, .SHY, .TAS]

/-- `PC_SETTING` and the two halts: the mnemonics that take no generic advance (rule R98). -/
def setsPc (m : Mnemonic) : Bool :=
  m ∈ [.BPL, .BMI, .BVC, .BVS, .BCC, .BCS, .BNE, .BEQ, .JMP, .JSR, .RTS, .RTI, .BRK, .KIL]

/-- The register value a high store masks (rules R282 to R285). -/
def highRegister (m : Mnemonic) (s : State) : Byte :=
  match m with
  | .SHY => s.y
  | .SHX => s.x
  | _ => s.a &&& s.x

/-- The base a high store computes its value and target from (rule R282). -/
def highBase (o : Operand) (s : State) : Addr := effectiveAddr o s - indexOf o s

/-- The byte a high store writes (rules R282 to R285): `v` masked by the base's high byte plus 1. -/
def highValue (o : Operand) (s : State) (v : Byte) : Byte := v &&& (hi8 (highBase o s) + 1)

/-- The target a high store writes to (rule R282). -/
def highAddr (o : Operand) (s : State) (v : Byte) : Addr :=
  highTarget (highBase o s) (effectiveAddr o s) (highValue o s v)

/-! ### The accesses an instruction makes (rules R66, R75) -/

/-- An event's kind and address. -/
def access (e : BusEvent) : AccessKind × Addr := (e.kind, e.addr)

/-- The accesses of resolving an operand. -/
def pointerAccesses (o : Operand) (s : State) : List (AccessKind × Addr) :=
  match o with
  | .indirectX z => [(.pointer, zext16 (z + s.x)), (.pointer, zext16 (z + s.x + 1))]
  | .indirectY z => [(.pointer, zext16 z), (.pointer, zext16 (z + 1))]
  | _ => []

/-- The accesses of an instruction's body after its operand bytes (rule R75: pointer bytes, then the data accesses of the
instruction rule; a high store's is one write of its target, rule R282). The operand bytes, an immediate byte among them, are
the fetch's (assumption log 13, 23). -/
def bodyAccesses (i : Instr) (s : State) : List (AccessKind × Addr) :=
  match i.operand with
  | .implied =>
    match i.mnemonic with
    | .PHA | .PHP => [(.stackWrite, stackAddr s.sp)]
    | .PLA | .PLP => [(.stackRead, stackAddr (s.sp + 1))]
    | .RTS => [(.stackRead, stackAddr (s.sp + 1)), (.stackRead, stackAddr (s.sp + 2))]
    | .RTI => [(.stackRead, stackAddr (s.sp + 1)), (.stackRead, stackAddr (s.sp + 2)), (.stackRead, stackAddr (s.sp + 3))]
    | _ => []
  | .accumulator => []
  | .immediate _ => []
  | .relative _ => []
  | .target _ => if i.mnemonic = .JSR then [(.stackWrite, stackAddr s.sp), (.stackWrite, stackAddr (s.sp - 1))] else []
  | .indirectTarget a => [(.pointer, a), (.pointer, indirectHigh a)]
  | o =>
    pointerAccesses o s ++
      (if isHighStore i.mnemonic then [(.dataWrite, highAddr o s (highRegister i.mnemonic s))]
       else if isStoring i.mnemonic then [(.dataWrite, effectiveAddr o s)]
       else if isModifying i.mnemonic then [(.dataRead, effectiveAddr o s), (.dataWrite, effectiveAddr o s)]
       else [(.dataRead, effectiveAddr o s)])

/-- The events of fetching an instruction whose opcode stands at `pc`, in memory that has no PPU register there (rules R75,
R99). -/
def fetchEvents (i : Instr) (pc : Addr) : List BusEvent :=
  { kind := .fetch, addr := pc, value := some i.opcode, call := none } ::
    match i.operand with
    | .immediate b => [{ kind := .dataRead, addr := pc + 1, value := some b, call := none }]
    | o =>
      match o.bytes with
      | [b] => [{ kind := .operand, addr := pc + 1, value := some b, call := none }]
      | [l, h] =>
        [{ kind := .operand, addr := pc + 1, value := some l, call := none },
         { kind := .operand, addr := pc + 2, value := some h, call := none }]
      | _ => []

/-- The state an instruction's body begins in, once it is fetched from memory that has no PPU register there. -/
def State.fetched (s : State) (i : Instr) : State :=
  { s with pc := s.pc + 1, history := s.history ++ fetchEvents i s.pc }

/-- An instruction stands at `PC`: an observer sees its bytes there (rule R90). -/
def InstrAtPc (i : Instr) (s : State) : Prop :=
  match encode i with
  | [op] => s.peek s.pc = some op
  | [op, b] => s.peek s.pc = some op ∧ s.peek (s.pc + 1) = some b
  | [op, l, h] => s.peek s.pc = some op ∧ s.peek (s.pc + 1) = some l ∧ s.peek (s.pc + 2) = some h
  | _ => False

/-- A result with a function applied to its next state. -/
def mapNext (g : State → State) (r : Result) : Result :=
  match r with
  | .next t => .next (g t)
  | .fault f => .fault f
  | .refused e => .refused e

/-- The model admits the instruction: it is stable, or unstable instructions are admitted (rule R279). -/
def admitted (i : Instr) (s : State) : Bool := !isUnstable i.opcode || s.config.admitUnstable

end Sys2Proof.Machine
end

