-- ==== Sys2Proof/Certificates/Slice0/Obligations.lean ====
section
/-! DEFINITION. The statements for the provers. `PC` at the start of a body is `opaddr + 1` (rule R95), so `exec i s` is stated
of states whose `PC` is that. "For some history" in a result leaves the accesses to `BodyAccessesInOrder`. -/

open Sys2Proof Sys2Proof.Machine

/-! ### Reset, run status and the step -/

/-- R342, R343: `reset()`, in every status in which the host may call it (R346), writes the registers, loads `PC` from the
vector in the image and makes the two vector reads, and changes nothing else but the run status. That the status it leaves is
`ready`, and that it may be called there, are the model's (log 10, 26). -/
def Obligations.ResetWritesRegistersAndVector : Prop :=
  ∀ s : State, (s.status = .constructed ∨ s.status = .ready ∨ ∃ r, s.status = .halted r) →
    let at0 := match s.prgSize with | .kib32 => 0x7FFC | .kib16 => 0x3FFC
    let lo := Memory.get s.prg at0
    let hi := Memory.get s.prg (at0 + 1)
    hostReset s = .next { s with
      a := 0x00, x := 0x00, y := 0x00, p := 0x24, sp := s.config.spReset, pc := word16 hi lo, status := .ready
      history := s.history ++
        [{ kind := .vectorRead, addr := 0xFFFC, value := some lo, call := none },
         { kind := .vectorRead, addr := 0xFFFD, value := some hi, call := none }] }

/-- R345, R346 (the spec's decision D22), R37: `run` starts after a reset or a halt and in no other status, and a step is
admitted in the status Running alone. That a step elsewhere is a refusal is the model's choice (log 11). -/
def Obligations.RunStatusAdmitsRunsAndSteps : Prop :=
  ∀ s : State,
    ((s.status = .ready ∨ ∃ r, s.status = .halted r) → startRun s = .next { s with status := .running }) ∧
    ((s.status ≠ .ready ∧ ∀ r, s.status ≠ .halted r) → startRun s = .refused (.notAdmitted s.status)) ∧
    (s.status ≠ .running → step s = .refused (.notAdmitted s.status))

/-- R310, R345, R352: `run` observes the state before each step and goes on from what `settle` makes of its outcome, which
ends it at the first that is not Continue; a run ends in at most one way: two normal ends are one state, two fatal ends one
record, two refused ends one byte, and no run ends in two of these ways. That a fatal error leaves the rest of the state as it
was is the model's (log 28): it is not observable. -/
def Obligations.RunEndsInAtMostOneWay : Prop :=
  (∀ (n : Nat) (s : State), s.status = .running →
    run (n + 1) s = (s :: (run n (settle s (step s))).1, (run n (settle s (step s))).2)) ∧
  (∀ (n : Nat) (s : State), s.status ≠ .running → run n s = ([], s)) ∧
  (∀ s t : State, settle s (.next t) = t) ∧
  (∀ (s : State) (f : Fault), settle s (.fault f) = { s with status := .faulted f, history := f.history }) ∧
  (∀ (s : State) (op : Byte), settle s (.refused (.unstableOpcode op)) = { s with status := .refused op }) ∧
  (∀ (s : State) (e : Refusal), s.status = .running → step s = .refused e → ∃ op, e = .unstableOpcode op) ∧
  (∀ s t u : State, EndsNormally s t → EndsNormally s u → t = u) ∧
  (∀ (s : State) (f g : Fault), EndsFatally s f → EndsFatally s g → f = g) ∧
  (∀ (s : State) (op op' : Byte), EndsRefused s op → EndsRefused s op' → op = op') ∧
  (∀ (s t : State) (f : Fault), EndsNormally s t → ¬ EndsFatally s f) ∧
  (∀ (s t : State) (op : Byte), EndsNormally s t → ¬ EndsRefused s op) ∧
  (∀ (s : State) (f : Fault) (op : Byte), EndsFatally s f → ¬ EndsRefused s op)

/-- The model's reset state is what `reset()` and the start of `run` leave of a constructed machine with an empty 32 KiB
image. Model's choices: log 2, 3, 4, 5, 7 (SP, RAM, image, parameters) and 10 (the status). -/
def Obligations.ResetStateIsResetOfEmptyCartridge : Prop :=
  hostReset { State.reset with sp := 0x00, p := 0x00, status := .constructed, history := [] } =
    .next { State.reset with status := .ready } ∧
  startRun { State.reset with status := .ready } = .next State.reset

/-- R95: a step in the status Running, at an instruction an observer sees at `PC`, is that instruction's meaning, in the
state with `PC` past the opcode byte and the instruction's bytes read, in order, on the bus. That an immediate byte is among
them, as a data read, is the model's (log 13, 23). -/
def Obligations.StepRunsDecodedInstruction : Prop :=
  ∀ (i : Instr) (s : State), s.status = .running → InstrAtPc i s → admitted i s = true →
    step s = exec i (s.fetched i)

/-- R95, R75, R90, for every fetch, from PPU registers too: what is fetched is the instruction whose encoding the fetch read
byte by byte, in ascending order, at `PC` and after it; nothing changes but `PC`, the history and the oracle; and a step
runs its meaning. The immediate byte counts as a data read (log 13). -/
def Obligations.FetchReadsEncodingInOrder : Prop :=
  ∀ (s t : State) (i : Instr), fetch s = .decoded i t →
    t = { s with pc := s.pc + 1, history := t.history, ppuScript := t.ppuScript } ∧
    t.history.map (·.value) = s.history.map (·.value) ++ (encode i).map some ∧
    t.history.map access = s.history.map access ++ (fetchEvents i s.pc).map access ∧
    admitted i s = true ∧
    (s.status = .running → step s = exec i t)

/-- R279, R325 (the spec's decision D13): an unstable opcode byte is refused at decode, whatever its operand bytes are and
wherever they stand, while unstable opcodes are not admitted. -/
def Obligations.UnstableOpcodeRefusedAtDecode : Prop :=
  ∀ (s : State) (op : Byte) (q : List PpuAnswer), s.status = .running → ReadsAt s s.pc op q →
    op ∈ ([0x8B, 0xAB, 0x93, 0x9F, 0x9B, 0x9C, 0x9E] : List Byte) → s.config.admitUnstable = false →
    step s = .refused (.unstableOpcode op)

/-- R311, R315, R318, R325 (the record is the spec's decision D19): a fatal fetch names no opcode; a fatal read of an operand
byte names the opcode and that byte's address, `opaddr + 1` or, of a word, `opaddr + 2`, and is a data read for an immediate
(log 13). -/
def Obligations.FetchFaultsNameTheAccess : Prop :=
  ∀ (s : State), s.status = .running →
    (∀ k, ReadStops s s.pc k →
      ∃ h, step s = .fault
        (Fault.ofKind k { opaddr := s.pc, opcode := none, addr := s.pc, access := some .fetch } h)) ∧
    (∀ op q f, ReadsAt s s.pc op q → form op = some f → (isUnstable op = false ∨ s.config.admitUnstable = true) →
      let s₁ := s.afterReadAs .fetch s.pc op q
      (∀ k, ReadStops s₁ (s.pc + 1) k → (∀ i, f ≠ .implied i) →
        ∃ h, step s = .fault (Fault.ofKind k
          { opaddr := s.pc, opcode := some op, addr := s.pc + 1,
            access := some (match f with | .immediate _ => .dataRead | _ => .operand) } h)) ∧
      (∀ k lo q₁ i, f = .word i → ReadsAt s₁ (s.pc + 1) lo q₁ →
        ReadStops (s₁.afterReadAs .operand (s.pc + 1) lo q₁) (s.pc + 2) k →
        ∃ h, step s = .fault (Fault.ofKind k
          { opaddr := s.pc, opcode := some op, addr := s.pc + 2, access := some .operand } h)))

/-! ### Encoding -/

/-- A few bytes of the map (R112), one or more per family, written out from it. -/
def Obligations.DecodedWordsOfTheMap : Prop :=
  decode [0xA9, 0x7F] = .instr (.ldaImm 0x7F) [] ∧
  decode [0xAD, 0x34, 0x12] = .instr (.ldaAbs 0x1234) [] ∧
  decode [0x96, 0xFF] = .instr (.stxZpY 0xFF) [] ∧
  decode [0x9A] = .instr .txs [] ∧
  decode [0x68] = .instr .pla [] ∧
  decode [0x71, 0x10] = .instr (.adcIndY 0x10) [] ∧
  decode [0xE1, 0x10] = .instr (.sbcIndX 0x10) [] ∧
  decode [0x24, 0x10] = .instr (.bitZp 0x10) [] ∧
  decode [0xFE, 0xFF, 0x00] = .instr (.incAbsX 0x00FF) [] ∧
  decode [0x6A] = .instr .rorA [] ∧
  decode [0x30, 0x80] = .instr (.bmi 0x80) [] ∧
  decode [0x6C, 0xFF, 0x02] = .instr (.jmpInd 0x02FF) [] ∧
  decode [0x20, 0x00, 0x90] = .instr (.jsr 0x9000) [] ∧
  decode [0x00] = .instr .brk [] ∧
  decode [0xF2] = .instr .kilF2 [] ∧
  decode [0xB8] = .instr .clv [] ∧
  decode [0xDB, 0x00, 0x02] = .instr (.dcpAbsY 0x0200) [] ∧
  decode [0x6B, 0xC0] = .instr (.arrImm 0xC0) [] ∧
  decode [0x9F, 0x00, 0x02] = .instr (.shaAbsY 0x0200) []

/-- Decoding the encoding of any instruction, with any bytes after it, gives the instruction and those bytes. -/
def Obligations.DecodeOfEncodeIsIdentity : Prop :=
  ∀ (i : Instr) (rest : List Byte), i.wellFormed = true → decode (encode i ++ rest) = .instr i rest

/-- Bytes that decode are the encoding of what they decode to, followed by the rest: each encoding has one meaning and no
bit of an instruction is dropped. -/
def Obligations.EncodeOfDecodeIsIdentity : Prop :=
  ∀ (bytes rest : List Byte) (i : Instr), decode bytes = .instr i rest → bytes = encode i ++ rest

/-- R96: every opcode byte decodes, with any two bytes after it, to an instruction of that opcode byte. -/
def Obligations.EveryOpcodeByteDecodes : Prop :=
  ∀ op b c : Byte, ∃ i rest, decode [op, b, c] = .instr i rest ∧ i.opcode = op

/-- R96, R108, R313, R314: no step raises UnknownOpcode or NoneAddressingResolved. -/
def Obligations.UnreachableFatalKindsAreNeverRaised : Prop :=
  ∀ (s : State) (f : Fault), step s = .fault f →
    f.kind ≠ .unknownOpcode ∧ f.kind ≠ .noneAddressingResolved

/-! ### Bus and stack -/

/-- R52, R55, R57: the read column of the decoding table. -/
def Obligations.BusReadsFollowTheTable : Prop :=
  ∀ (k : AccessKind) (addr : Addr) (s : State),
    let n := addr.toNat
    let reg := addr &&& 0x2007
    let relayed (call : PpuCall) := match s.ppuAnswer call with
      | .done v => read8 k addr s = .ok (v, s.afterAnswer.log k addr (some v) (some call))
      | .fault => ∃ h, read8 k addr s = .error ⟨.ppuFault, addr, some k, h⟩
    (n < 0x2000 → read8 k addr s =
      .ok (Memory.get s.ram (addr &&& 0x07FF).toNat, s.log k addr (some (Memory.get s.ram (addr &&& 0x07FF).toNat)) none)) ∧
    (0x2000 ≤ n → n < 0x4000 →
      (reg ∈ ([0x2000, 0x2001, 0x2003, 0x2005, 0x2006] : List Addr) →
        ∃ h, read8 k addr s = .error ⟨.writeOnlyRead, addr, some k, h⟩) ∧
      (reg = 0x2002 → relayed .readStatus) ∧
      (reg = 0x2004 → relayed .readOamData) ∧
      (reg = 0x2007 → relayed .readData)) ∧
    (0x4000 ≤ n → n < 0x8000 → read8 k addr s = .ok (0x00, s.log k addr (some 0x00) none)) ∧
    (0x8000 ≤ n →
      let i := if s.prgSize = .kib16 then (n - 0x8000) % 0x4000 else n - 0x8000
      read8 k addr s = .ok (Memory.get s.prg i, s.log k addr (some (Memory.get s.prg i)) none))

/-- R52, R55, R57: the write column of the decoding table. -/
def Obligations.BusWritesFollowTheTable : Prop :=
  ∀ (k : AccessKind) (addr : Addr) (v : Byte) (s : State),
    let n := addr.toNat
    let reg := addr &&& 0x2007
    let relayed (call : PpuCall) := match s.ppuAnswer call with
      | .done _ => write8 k addr v s = .ok (s.afterAnswer.log k addr (some v) (some call))
      | .fault => ∃ h, write8 k addr v s = .error ⟨.ppuFault, addr, some k, h⟩
    (n < 0x2000 → write8 k addr v s =
      .ok (State.log { s with ram := Memory.set s.ram (addr &&& 0x07FF).toNat v } k addr (some v) none)) ∧
    (0x2000 ≤ n → n < 0x4000 →
      (reg = 0x2000 → relayed (.writeControl v)) ∧
      (reg = 0x2001 → relayed (.writeMask v)) ∧
      (reg = 0x2002 → ∃ h, write8 k addr v s = .error ⟨.ppuStatusWrite, addr, some k, h⟩) ∧
      (reg = 0x2003 → relayed (.setOamAddress v)) ∧
      (reg = 0x2004 → relayed (.writeOamData v)) ∧
      (reg = 0x2005 → relayed (.writeScroll v)) ∧
      (reg = 0x2006 → relayed (.writeAddress v)) ∧
      (reg = 0x2007 → relayed (.writeData v))) ∧
    (0x4000 ≤ n → n < 0x8000 → write8 k addr v s = .ok (s.log k addr (some v) none)) ∧
    (0x8000 ≤ n → ∃ h, write8 k addr v s = .error ⟨.romWrite, addr, some k, h⟩)

/-- R53, R54, R57: RAM repeats each 0x0800 up to 0x1FFF, the PPU registers up to 0x3FFF, a 16 KiB image once. -/
def Obligations.MirrorsDecodeAlike : Prop :=
  ∀ (z : PrgSize) (a : Addr),
    (a.toNat < 0x0800 →
      busDecode z (a + 0x0800) = busDecode z a ∧ busDecode z (a + 0x1000) = busDecode z a ∧
      busDecode z (a + 0x1800) = busDecode z a) ∧
    (0x2000 ≤ a.toNat → a.toNat < 0x4000 → busDecode z a = busDecode z (a &&& 0x2007)) ∧
    (0x8000 ≤ a.toNat → a.toNat < 0xC000 → busDecode .kib16 (a + 0x4000) = busDecode .kib16 a)

/-- R53, R68, R70: in canonical memory a byte written to RAM reads back through every mirror, by any kind of access, a fetch
too, and what an observer sees at every other byte is unchanged. -/
def Obligations.WriteReadsBackThroughMirrors : Prop :=
  ∀ (k k' : AccessKind) (a : Addr) (v : Byte) (s t : State), Memory.wf s.ram = true → write8 k a v s = .ok t →
    (∀ b, sameRamByte s.prgSize a b = true → ∃ u, read8 k' b t = .ok (v, u)) ∧
    (∀ b, sameRamByte s.prgSize a b = false → t.peek b = s.peek b)

/-- R28, R29: a push "writes then decrements", a pop "increments then reads", in the stack page of RAM, and neither can
fail. -/
def Obligations.PushAndPopOneByte : Prop :=
  ∀ (v : Byte) (s : State),
    (∃ h, push8 v s = .ok { s with
      ram := Memory.set s.ram (0x100 + s.sp.toNat) v, sp := s.sp - 1, history := h }) ∧
    (let m := Memory.get s.ram (0x100 + (s.sp + 1).toNat)
     ∃ h, pop8 s = .ok (m, { s with sp := s.sp + 1, history := h }))

/-- R30, R31: a 16-bit push leaves the low byte at the lower stack address, wrapping in the page, and a pop gives the value
back and leaves SP as it was. -/
def Obligations.StackRoundTrip : Prop :=
  ∀ (v : Addr) (s : State), Memory.wf s.ram = true →
    ∃ t u, push16 v s = .ok t ∧ pop16 t = .ok (v, u) ∧ u.sp = s.sp ∧ t.sp = s.sp - 2 ∧
      t.peek (0x0100 ||| zext16 s.sp) = some (hi8 v) ∧ t.peek (0x0100 ||| zext16 (s.sp - 1)) = some (lo8 v)

/-! ### Flags and the adder -/

/-- R25: `setZN(v)` sets Z iff `v` is 0 and N to bit 7 of `v`, and writes nothing else. -/
def Obligations.SetZNWritesZAndNOnly : Prop :=
  ∀ (v : Byte) (s : State),
    ((s.setZN v).flag .Z = true ↔ v = 0x00) ∧ (s.setZN v).flag .N = v.getLsbD 7 ∧
    (∀ f : Flag, f ≠ .Z → f ≠ .N → (s.setZN v).flag f = s.flag f) ∧
    s.setZN v = { s with p := (s.setZN v).p }

/-- R171: the adder as integers: the sum is the truncated byte and the carry; overflow is disagreement of the signs, which is
the two's-complement sum leaving -128 to 127 (R170). -/
def Obligations.AdderIntegerLaw : Prop :=
  ∀ (a m : Byte) (c : Bool),
    let r := adcCore a m c
    let sum := a.toNat + m.toNat + c.toNat
    r.value.toNat = sum % 256 ∧ (r.carry = true ↔ 0xFF < sum) ∧
    r.overflow = (((m ^^^ r.value) &&& (a ^^^ r.value) &&& 0x80) != 0) ∧
    (r.overflow = true ↔ a.toInt + m.toInt + c.toNat < -128 ∨ 127 < a.toInt + m.toInt + c.toNat)

/-- R173: with the operand inverted the adder subtracts `M` and the borrow, and the carry is the absence of a borrow. -/
def Obligations.SubtractIntegerLaw : Prop :=
  ∀ (a m : Byte) (c : Bool),
    let r := adcCore a (~~~m) c
    r.value = a - m - (if c then 0 else 1) ∧ (r.carry = true ↔ m.toNat + (if c then 0 else 1) ≤ a.toNat)

/-! ### Reading instructions -/

/-- R130, R131, R132: LDA, LDX, LDY in every form. -/
def Obligations.LoadsWriteRegisterAndZN : Prop :=
  (EncodedAs .LDA [(0xA9, .immediate), (0xA5, .zeroPage), (0xB5, .zeroPageX), (0xAD, .absolute), (0xBD, .absoluteX),
      (0xB9, .absoluteY), (0xA1, .indirectX), (0xB1, .indirectY)] ∧
    EncodedAs .LDX [(0xA2, .immediate), (0xA6, .zeroPage), (0xB6, .zeroPageY), (0xAE, .absolute), (0xBE, .absoluteY)] ∧
    EncodedAs .LDY [(0xA0, .immediate), (0xA4, .zeroPage), (0xB4, .zeroPageX), (0xAC, .absolute), (0xBC, .absoluteX)]) ∧
  ∀ (i : Instr) (s : State),
    (i.mnemonic = .LDA → ReadsOperand i s (fun m => { s with a := m, p := withZN m s.p })) ∧
    (i.mnemonic = .LDX → ReadsOperand i s (fun m => { s with x := m, p := withZN m s.p })) ∧
    (i.mnemonic = .LDY → ReadsOperand i s (fun m => { s with y := m, p := withZN m s.p }))

/-- R172, R173, R277: ADC and SBC in every form, the undocumented SBC 0xEB among them. -/
def Obligations.AddAndSubtractThroughTheAdder : Prop :=
  (EncodedAs .ADC [(0x69, .immediate), (0x65, .zeroPage), (0x75, .zeroPageX), (0x6D, .absolute), (0x7D, .absoluteX),
      (0x79, .absoluteY), (0x61, .indirectX), (0x71, .indirectY)] ∧
    EncodedAs .SBC [(0xE9, .immediate), (0xE5, .zeroPage), (0xF5, .zeroPageX), (0xED, .absolute), (0xFD, .absoluteX),
      (0xF9, .absoluteY), (0xE1, .indirectX), (0xF1, .indirectY), (0xEB, .immediate)]) ∧
  ∀ (i : Instr) (s : State),
    (i.mnemonic = .ADC → ReadsOperand i s (fun m =>
      let r := adcCore s.a m (s.flag .C)
      { s with a := r.value, p := withZN r.value (withFlag .V r.overflow (withFlag .C r.carry s.p)) })) ∧
    (i.mnemonic = .SBC → ReadsOperand i s (fun m =>
      let r := adcCore s.a (~~~m) (s.flag .C)
      { s with a := r.value, p := withZN r.value (withFlag .V r.overflow (withFlag .C r.carry s.p)) }))

/-- R174, R175, R176: AND, ORA, EOR in every form. -/
def Obligations.LogicWritesAccumulatorAndZN : Prop :=
  (EncodedAs .AND [(0x29, .immediate), (0x25, .zeroPage), (0x35, .zeroPageX), (0x2D, .absolute), (0x3D, .absoluteX),
      (0x39, .absoluteY), (0x21, .indirectX), (0x31, .indirectY)] ∧
    EncodedAs .ORA [(0x09, .immediate), (0x05, .zeroPage), (0x15, .zeroPageX), (0x0D, .absolute), (0x1D, .absoluteX),
      (0x19, .absoluteY), (0x01, .indirectX), (0x11, .indirectY)] ∧
    EncodedAs .EOR [(0x49, .immediate), (0x45, .zeroPage), (0x55, .zeroPageX), (0x4D, .absolute), (0x5D, .absoluteX),
      (0x59, .absoluteY), (0x41, .indirectX), (0x51, .indirectY)]) ∧
  ∀ (i : Instr) (s : State),
    (i.mnemonic = .AND → ReadsOperand i s (fun m => { s with a := s.a &&& m, p := withZN (s.a &&& m) s.p })) ∧
    (i.mnemonic = .ORA → ReadsOperand i s (fun m => { s with a := s.a ||| m, p := withZN (s.a ||| m) s.p })) ∧
    (i.mnemonic = .EOR → ReadsOperand i s (fun m => { s with a := s.a ^^^ m, p := withZN (s.a ^^^ m) s.p }))

/-- R177 to R181: CMP, CPX, CPY and BIT in every form write flags and no register. -/
def Obligations.ComparesAndBitWriteFlagsOnly : Prop :=
  (EncodedAs .CMP [(0xC9, .immediate), (0xC5, .zeroPage), (0xD5, .zeroPageX), (0xCD, .absolute), (0xDD, .absoluteX),
      (0xD9, .absoluteY), (0xC1, .indirectX), (0xD1, .indirectY)] ∧
    EncodedAs .CPX [(0xE0, .immediate), (0xE4, .zeroPage), (0xEC, .absolute)] ∧
    EncodedAs .CPY [(0xC0, .immediate), (0xC4, .zeroPage), (0xCC, .absolute)] ∧
    EncodedAs .BIT [(0x24, .zeroPage), (0x2C, .absolute)]) ∧
  ∀ (i : Instr) (s : State),
    (i.mnemonic = .CMP → ReadsOperand i s (fun m =>
      { s with p := withZN (s.a - m) (withFlag .C (decide (m.toNat ≤ s.a.toNat)) s.p) })) ∧
    (i.mnemonic = .CPX → ReadsOperand i s (fun m =>
      { s with p := withZN (s.x - m) (withFlag .C (decide (m.toNat ≤ s.x.toNat)) s.p) })) ∧
    (i.mnemonic = .CPY → ReadsOperand i s (fun m =>
      { s with p := withZN (s.y - m) (withFlag .C (decide (m.toNat ≤ s.y.toNat)) s.p) })) ∧
    (i.mnemonic = .BIT → ReadsOperand i s (fun m =>
      { s with p := withFlag .N (m.getLsbD 7) (withFlag .V (m.getLsbD 6) (withFlag .Z (s.a &&& m == 0x00) s.p)) }))

/-- R265, R273, R274, R276, R278: LAX, ANC, ALR, AXS and LAS in every form. -/
def Obligations.UndocumentedReadCombinations : Prop :=
  (EncodedAs .LAX [(0xA7, .zeroPage), (0xB7, .zeroPageY), (0xAF, .absolute), (0xBF, .absoluteY), (0xA3, .indirectX),
      (0xB3, .indirectY)] ∧
    EncodedAs .ANC [(0x0B, .immediate), (0x2B, .immediate)] ∧
    EncodedAs .ALR [(0x4B, .immediate)] ∧
    EncodedAs .AXS [(0xCB, .immediate)] ∧
    EncodedAs .LAS [(0xBB, .absoluteY)]) ∧
  ∀ (i : Instr) (s : State),
    (i.mnemonic = .LAX → ReadsOperand i s (fun m => { s with a := m, x := m, p := withZN m s.p })) ∧
    (i.mnemonic = .ANC → ReadsOperand i s (fun m =>
      let r := s.a &&& m
      { s with a := r, p := withFlag .C (r.getLsbD 7) (withZN r s.p) })) ∧
    (i.mnemonic = .ALR → ReadsOperand i s (fun m =>
      let t := s.a &&& m
      { s with a := t >>> 1, p := withZN (t >>> 1) (withFlag .C (t.getLsbD 0) s.p) })) ∧
    (i.mnemonic = .AXS → ReadsOperand i s (fun m =>
      let t := s.a &&& s.x
      { s with x := t - m, p := withZN (t - m) (withFlag .C (decide (m.toNat ≤ t.toNat)) s.p) })) ∧
    (i.mnemonic = .LAS → ReadsOperand i s (fun m =>
      let r := m &&& s.sp
      { s with a := r, x := r, sp := r, p := withZN r s.p }))

/-- R275, with C and V as the spec's decision D15 gives them (log 17). -/
def Obligations.ArrRotatesWithItsOwnCarryAndOverflow : Prop :=
  (EncodedAs .ARR [(0x6B, .immediate)]) ∧
  ∀ (i : Instr) (s : State), i.mnemonic = .ARR → ReadsOperand i s (fun m =>
    let r := ((s.a &&& m) >>> 1) ||| (if s.flag .C then 0x80 else 0x00)
    { s with a := r, p := withFlag .V (r.getLsbD 6 ^^ r.getLsbD 5) (withFlag .C (r.getLsbD 6) (withZN r s.p)) })

/-- R262, R263 (the spec's decision D7): a NOP with an operand reads it and changes nothing. -/
def Obligations.ReadingNopsReadAndDiscard : Prop :=
  ∀ (i : Instr) (s : State), i.mnemonic = .NOP → i.operand ≠ .implied → ReadsOperand i s (fun _ => s)

/-! ### Storing and modifying instructions -/

/-- R133, R134, R135, R266: STA, STX, STY, SAX in every form. -/
def Obligations.StoresWriteTheirRegister : Prop :=
  (EncodedAs .STA [(0x85, .zeroPage), (0x95, .zeroPageX), (0x8D, .absolute), (0x9D, .absoluteX), (0x99, .absoluteY),
      (0x81, .indirectX), (0x91, .indirectY)] ∧
    EncodedAs .STX [(0x86, .zeroPage), (0x96, .zeroPageY), (0x8E, .absolute)] ∧
    EncodedAs .STY [(0x84, .zeroPage), (0x94, .zeroPageX), (0x8C, .absolute)] ∧
    EncodedAs .SAX [(0x87, .zeroPage), (0x97, .zeroPageY), (0x8F, .absolute), (0x83, .indirectX)]) ∧
  ∀ (i : Instr) (s : State),
    (i.mnemonic = .STA → StoresAtOperand i s s.a) ∧
    (i.mnemonic = .STX → StoresAtOperand i s s.x) ∧
    (i.mnemonic = .STY → StoresAtOperand i s s.y) ∧
    (i.mnemonic = .SAX → StoresAtOperand i s (s.a &&& s.x))

/-- R182, R183: INC and DEC in every form. -/
def Obligations.IncrementAndDecrementMemory : Prop :=
  (EncodedAs .INC [(0xE6, .zeroPage), (0xF6, .zeroPageX), (0xEE, .absolute), (0xFE, .absoluteX)] ∧
    EncodedAs .DEC [(0xC6, .zeroPage), (0xD6, .zeroPageX), (0xCE, .absolute), (0xDE, .absoluteX)]) ∧
  ∀ (i : Instr) (s : State),
    (i.mnemonic = .INC → ModifiesOperand i s (· + 1) (fun m => { s with p := withZN (m + 1) s.p })) ∧
    (i.mnemonic = .DEC → ModifiesOperand i s (· - 1) (fun m => { s with p := withZN (m - 1) s.p }))

/-- R188 to R192: ASL, LSR, ROL, ROR in the accumulator form and in every memory form. -/
def Obligations.ShiftsOfAccumulatorAndMemory : Prop :=
  let c (s : State) : Nat := if s.flag .C then 1 else 0
  let shifted (m : Mnemonic) (s : State) (v : Byte) : Byte := match m with
    | .ASL => v <<< 1
    | .LSR => v >>> 1
    | .ROL => (v <<< 1) ||| BitVec.ofNat 8 (c s)
    | _ => (v >>> 1) ||| BitVec.ofNat 8 (128 * c s)
  let out (m : Mnemonic) (v : Byte) : Bool := if m = .ASL ∨ m = .ROL then v.getLsbD 7 else v.getLsbD 0
  (EncodedAs .ASL [(0x0A, .noneAddressing), (0x06, .zeroPage), (0x16, .zeroPageX), (0x0E, .absolute), (0x1E, .absoluteX)] ∧
    EncodedAs .LSR [(0x4A, .noneAddressing), (0x46, .zeroPage), (0x56, .zeroPageX), (0x4E, .absolute), (0x5E, .absoluteX)] ∧
    EncodedAs .ROL [(0x2A, .noneAddressing), (0x26, .zeroPage), (0x36, .zeroPageX), (0x2E, .absolute), (0x3E, .absoluteX)] ∧
    EncodedAs .ROR [(0x6A, .noneAddressing), (0x66, .zeroPage), (0x76, .zeroPageX), (0x6E, .absolute), (0x7E, .absoluteX)]) ∧
  ∀ (i : Instr) (s : State), i.mnemonic ∈ ([.ASL, .LSR, .ROL, .ROR] : List Mnemonic) →
    (i.operand = .accumulator → exec i s = .next { s with
      a := shifted i.mnemonic s s.a
      p := withZN (shifted i.mnemonic s s.a) (withFlag .C (out i.mnemonic s.a) s.p) }) ∧
    (i.operand ≠ .accumulator → ModifiesOperand i s (shifted i.mnemonic s) (fun m =>
      { s with p := withZN (shifted i.mnemonic s m) (withFlag .C (out i.mnemonic m) s.p) }))

/-- R268 to R272: ISB, SLO, RLA, SRE, RRA in every form: the written result feeds the second operation, with the first
one's carry. -/
def Obligations.ModifyCombinationsCompose : Prop :=
  (EncodedAs .ISB [(0xE7, .zeroPage), (0xF7, .zeroPageX), (0xEF, .absolute), (0xFF, .absoluteX), (0xFB, .absoluteY),
      (0xE3, .indirectX), (0xF3, .indirectY)] ∧
    EncodedAs .SLO [(0x07, .zeroPage), (0x17, .zeroPageX), (0x0F, .absolute), (0x1F, .absoluteX), (0x1B, .absoluteY),
      (0x03, .indirectX), (0x13, .indirectY)] ∧
    EncodedAs .RLA [(0x27, .zeroPage), (0x37, .zeroPageX), (0x2F, .absolute), (0x3F, .absoluteX), (0x3B, .absoluteY),
      (0x23, .indirectX), (0x33, .indirectY)] ∧
    EncodedAs .SRE [(0x47, .zeroPage), (0x57, .zeroPageX), (0x4F, .absolute), (0x5F, .absoluteX), (0x5B, .absoluteY),
      (0x43, .indirectX), (0x53, .indirectY)] ∧
    EncodedAs .RRA [(0x67, .zeroPage), (0x77, .zeroPageX), (0x6F, .absolute), (0x7F, .absoluteX), (0x7B, .absoluteY),
      (0x63, .indirectX), (0x73, .indirectY)]) ∧
  ∀ (i : Instr) (s : State),
    (i.mnemonic = .ISB → ModifiesOperand i s (· + 1) (fun m =>
      let r := adcCore s.a (~~~(m + 1)) (s.flag .C)
      { s with a := r.value, p := withZN r.value (withFlag .V r.overflow (withFlag .C r.carry s.p)) })) ∧
    (i.mnemonic = .SLO → ModifiesOperand i s (fun m => (asl m).value) (fun m =>
      let r := s.a ||| (asl m).value
      { s with a := r, p := withZN r (withFlag .C (asl m).carry s.p) })) ∧
    (i.mnemonic = .RLA → ModifiesOperand i s (fun m => (rol m (s.flag .C)).value) (fun m =>
      let r := s.a &&& (rol m (s.flag .C)).value
      { s with a := r, p := withZN r (withFlag .C (m.getLsbD 7) s.p) })) ∧
    (i.mnemonic = .SRE → ModifiesOperand i s (fun m => (lsr m).value) (fun m =>
      let r := s.a ^^^ (lsr m).value
      { s with a := r, p := withZN r (withFlag .C (lsr m).carry s.p) })) ∧
    (i.mnemonic = .RRA → ModifiesOperand i s (fun m => (ror m (s.flag .C)).value) (fun m =>
      let r := adcCore s.a (ror m (s.flag .C)).value (m.getLsbD 0)
      { s with a := r.value, p := withZN r.value (withFlag .V r.overflow (withFlag .C r.carry s.p)) }))

/-- R267 (the spec's decision D16): DCP compares A with the decremented byte. -/
def Obligations.DcpComparesWithDecrementedByte : Prop :=
  (EncodedAs .DCP [(0xC7, .zeroPage), (0xD7, .zeroPageX), (0xCF, .absolute), (0xDF, .absoluteX), (0xDB, .absoluteY),
      (0xC3, .indirectX), (0xD3, .indirectY)]) ∧
  ∀ (i : Instr) (s : State), i.mnemonic = .DCP → ModifiesOperand i s (· - 1) (fun m =>
    { s with p := withZN (s.a - (m - 1)) (withFlag .C (decide ((m - 1).toNat ≤ s.a.toNat)) s.p) })

/-! ### One-byte instructions -/

/-- R136 to R141: the transfers; TXS writes no flag. -/
def Obligations.TransfersCopyRegisters : Prop :=
  (encode .tax = [0xAA] ∧ encode .tay = [0xA8] ∧ encode .txa = [0x8A] ∧ encode .tya = [0x98] ∧ encode .tsx = [0xBA] ∧
    encode .txs = [0x9A]) ∧
  ∀ s : State,
    exec .tax s = .next { s with x := s.a, p := withZN s.a s.p } ∧
    exec .tay s = .next { s with y := s.a, p := withZN s.a s.p } ∧
    exec .txa s = .next { s with a := s.x, p := withZN s.x s.p } ∧
    exec .tya s = .next { s with a := s.y, p := withZN s.y s.p } ∧
    exec .tsx s = .next { s with x := s.sp, p := withZN s.sp s.p } ∧
    exec .txs s = .next { s with sp := s.x }

/-- R184 to R187: INX, INY, DEX, DEY. -/
def Obligations.IndexRegistersCountUpAndDown : Prop :=
  (encode .inx = [0xE8] ∧ encode .iny = [0xC8] ∧ encode .dex = [0xCA] ∧ encode .dey = [0x88]) ∧
  ∀ s : State,
    exec .inx s = .next { s with x := s.x + 1, p := withZN (s.x + 1) s.p } ∧
    exec .iny s = .next { s with y := s.y + 1, p := withZN (s.y + 1) s.p } ∧
    exec .dex s = .next { s with x := s.x - 1, p := withZN (s.x - 1) s.p } ∧
    exec .dey s = .next { s with y := s.y - 1, p := withZN (s.y - 1) s.p }

/-- R235 to R242, R261: the flag instructions write one flag, and the NOPs of one byte change nothing. -/
def Obligations.FlagInstructionsAndNops : Prop :=
  (encode .clc = [0x18] ∧ encode .sec = [0x38] ∧ encode .cli = [0x58] ∧ encode .sei = [0x78] ∧ encode .cld = [0xD8] ∧
    encode .sed = [0xF8] ∧ encode .clv = [0xB8] ∧
    ∀ i : Instr, i.mnemonic = .NOP ∧ i.operand = .implied ↔
      i.opcode ∈ ([0xEA, 0x1A, 0x3A, 0x5A, 0x7A, 0xDA, 0xFA] : List Byte)) ∧
  ∀ s : State,
    exec .clc s = .next { s with p := withFlag .C false s.p } ∧
    exec .sec s = .next { s with p := withFlag .C true s.p } ∧
    exec .cli s = .next { s with p := withFlag .I false s.p } ∧
    exec .sei s = .next { s with p := withFlag .I true s.p } ∧
    exec .cld s = .next { s with p := withFlag .D false s.p } ∧
    exec .sed s = .next { s with p := withFlag .D true s.p } ∧
    exec .clv s = .next { s with p := withFlag .V false s.p } ∧
    (∀ i : Instr, i.mnemonic = .NOP → i.operand = .implied → exec i s = .next s)

/-- R142, R144: PHA pushes A, PLA pulls A with Z and N. -/
def Obligations.PhaPushesAndPlaPullsAccumulator : Prop :=
  (encode .pha = [0x48] ∧ encode .pla = [0x68]) ∧
  ∀ s : State,
    let m := Memory.get s.ram (0x100 + (s.sp + 1).toNat)
    (∃ h, exec .pha s = .next { s with
      ram := Memory.set s.ram (0x100 + s.sp.toNat) s.a, sp := s.sp - 1, history := h }) ∧
    (∃ h, exec .pla s = .next { s with a := m, p := withZN m s.p, sp := s.sp + 1, history := h })

/-- R143 (by the spec's own reading), R145 (the spec's decision D10): PHP pushes `P | 0x30`; PLP loads `P` with B clear and B2
set, so after PHP it gives back a `P` that has B clear and B2 set. -/
def Obligations.PhpPushesStatusAndPlpLoadsIt : Prop :=
  (encode .php = [0x08] ∧ encode .plp = [0x28]) ∧
  ∀ s : State,
    (∃ h, exec .php s = .next { s with
      ram := Memory.set s.ram (0x100 + s.sp.toNat) (s.p ||| 0x30), sp := s.sp - 1, history := h }) ∧
    (∃ h, exec .plp s = .next { s with
      p := (Memory.get s.ram (0x100 + (s.sp + 1).toNat) &&& 0xEF) ||| 0x20, sp := s.sp + 1, history := h }) ∧
    (Memory.wf s.ram = true → s.flag .B = false → s.flag .B2 = true →
      ∀ t u, exec .php s = .next t → exec .plp t = .next u → u.p = s.p ∧ u.sp = s.sp)

/-! ### Control flow -/

/-- R220 to R228: the eight branches, to `opaddr + 2` or, by the sign-extended offset, from there; no flag is written. -/
def Obligations.BranchesTestOneFlag : Prop :=
  ((∀ r, encode (.bcc r) = [0x90, r]) ∧ (∀ r, encode (.bcs r) = [0xB0, r]) ∧ (∀ r, encode (.beq r) = [0xF0, r]) ∧
    (∀ r, encode (.bne r) = [0xD0, r]) ∧ (∀ r, encode (.bmi r) = [0x30, r]) ∧ (∀ r, encode (.bpl r) = [0x10, r]) ∧
    (∀ r, encode (.bvc r) = [0x50, r]) ∧ (∀ r, encode (.bvs r) = [0x70, r])) ∧
  ∀ (r : Byte) (s : State),
    let goes (taken : Bool) : State := { s with pc := if taken then s.pc + 1 + r.signExtend 16 else s.pc + 1 }
    exec (.bcc r) s = .next (goes (s.flag .C == false)) ∧
    exec (.bcs r) s = .next (goes (s.flag .C == true)) ∧
    exec (.beq r) s = .next (goes (s.flag .Z == true)) ∧
    exec (.bne r) s = .next (goes (s.flag .Z == false)) ∧
    exec (.bmi r) s = .next (goes (s.flag .N == true)) ∧
    exec (.bpl r) s = .next (goes (s.flag .N == false)) ∧
    exec (.bvc r) s = .next (goes (s.flag .V == false)) ∧
    exec (.bvs r) s = .next (goes (s.flag .V == true))

/-- R229, R230: JMP to its target, and through a pointer with the page-wrap quirk; a fatal pointer read ends the run. -/
def Obligations.JumpsAndThePageWrapQuirk : Prop :=
  (∀ ll hh : Byte, encode (.jmpAbs (word16 hh ll)) = [0x4C, ll, hh] ∧ encode (.jmpInd (word16 hh ll)) = [0x6C, ll, hh]) ∧
  ∀ (a : Addr) (s : State),
    let next : Addr := if a.toNat % 256 = 0xFF then a &&& 0xFF00 else a + 1
    let after (lo : Byte) (q : List PpuAnswer) : State := { s with
      history := s.history ++ [{ kind := .pointer, addr := a, value := some lo, call := readCallAt s.prgSize a }]
      ppuScript := q }
    exec (.jmpAbs a) s = .next { s with pc := a } ∧
    (∀ lo q hi q', ReadsAt s a lo q → ReadsAt (after lo q) next hi q' →
      ∃ h, exec (.jmpInd a) s = .next { s with pc := word16 hi lo, history := h, ppuScript := q' }) ∧
    (∀ k, ReadStops s a k → ∃ f, exec (.jmpInd a) s = .fault f ∧ f.kind = k) ∧
    (∀ lo q k, ReadsAt s a lo q → ReadStops (after lo q) next k →
      ∃ f, exec (.jmpInd a) s = .fault f ∧ f.kind = k)

/-- R231: JSR pushes the address of its last byte, `opaddr + 2`, high byte first, and goes to its target. -/
def Obligations.JsrPushesReturnAddress : Prop :=
  (∀ ll hh : Byte, encode (.jsr (word16 hh ll)) = [0x20, ll, hh]) ∧
  ∀ (a : Addr) (s : State),
    ∃ h, exec (.jsr a) s = .next { s with
      ram := Memory.set (Memory.set s.ram (0x100 + s.sp.toNat) (hi8 (s.pc + 1))) (0x100 + (s.sp - 1).toNat) (lo8 (s.pc + 1))
      sp := s.sp - 2, pc := a, history := h }

/-- R232, R233: RTS pops the return address and adds 1; RTI pops `P`, with B clear and B2 set, then the return address, and
does not add 1. -/
def Obligations.ReturnsPopTheirFrame : Prop :=
  (encode .rts = [0x60] ∧ encode .rti = [0x40]) ∧
  ∀ s : State,
    let at_ (n : Byte) : Byte := Memory.get s.ram (0x100 + (s.sp + n).toNat)
    (∃ h, exec .rts s = .next { s with sp := s.sp + 2, pc := word16 (at_ 2) (at_ 1) + 1, history := h }) ∧
    (∃ h, exec .rti s = .next { s with
      sp := s.sp + 3, p := (at_ 1 &&& ~~~0x10) ||| 0x20, pc := word16 (at_ 3) (at_ 2), history := h })

/-- R231, R232: after JSR, RTS with the same stack goes to the instruction after the JSR, `opaddr + 3`, and SP is back. -/
def Obligations.RtsReturnsPastJsr : Prop :=
  ∀ (a : Addr) (s t u : State), Memory.wf s.ram = true → exec (.jsr a) s = .next t → u.sp = t.sp → u.ram = t.ram →
    ∃ v, exec .rts u = .next v ∧ v.pc = s.pc + 2 ∧ v.sp = s.sp

/-- R234 (the spec's decision D9): BRK halts the run, sets B if `BRK_SETS_B`, and does nothing else. -/
def Obligations.BrkHaltsTheRun : Prop :=
  (encode .brk = [0x00]) ∧
  ∀ s : State, exec .brk s = .next { s with
    p := if s.config.brkSetsB then withFlag .B true s.p else s.p, status := .halted .brk }

/-- R264: each of the twelve KIL bytes halts the run and changes nothing else. -/
def Obligations.KilHaltsAndChangesNothing : Prop :=
  (∀ (i : Instr) (s : State), i.mnemonic = .KIL → exec i s = .next { s with status := .halted .kil }) ∧
  (∀ i : Instr, i.mnemonic = .KIL ↔
    i.opcode ∈ ([0x02, 0x12, 0x22, 0x32, 0x42, 0x52, 0x62, 0x72, 0x92, 0xB2, 0xD2, 0xF2] : List Byte))

/-! ### Unstable opcodes -/

/-- R280, R281, when admitted (the spec's decisions D13, D14): XAA and LXA, for every value of their constants. -/
def Obligations.AdmittedXaaAndLxa : Prop :=
  (EncodedAs .XAA [(0x8B, .immediate)] ∧
    EncodedAs .LXA [(0xAB, .immediate)]) ∧
  ∀ (i : Instr) (s : State), s.config.admitUnstable = true →
    (i.mnemonic = .XAA → ReadsOperand i s (fun m =>
      let r := (s.a ||| s.config.xaaMagic) &&& s.x &&& m
      { s with a := r, p := withZN r s.p })) ∧
    (i.mnemonic = .LXA → ReadsOperand i s (fun m =>
      let r := (s.a ||| s.config.lxaMagic) &&& m
      { s with a := r, x := r, p := withZN r s.p }))

/-- R282 to R285, when admitted (the spec's decisions D13, D25): SHA, TAS, SHY and SHX store a register masked by the base's
high byte plus 1 to the target `T`; TAS also writes SP. -/
def Obligations.AdmittedHighStores : Prop :=
  ∀ (i : Instr) (s : State), s.config.admitUnstable = true → isHighStore i.mnemonic = true →
    let o := i.operand
    let reg : Byte := match i.mnemonic with
      | .SHY => s.y
      | .SHX => s.x
      | _ => s.a &&& s.x
    let s' : State := if i.mnemonic = .TAS then { s with sp := s.a &&& s.x } else s
    let base : Addr := match o with
      | .indirectY z => word16 (Memory.get s.ram (z + 1).toNat) (Memory.get s.ram z.toNat)
      | .absoluteX a => a
      | .absoluteY a => a
      | _ => 0
    let ea : Addr := base + (match o with | .absoluteX _ => s.x.setWidth 16 | _ => s.y.setWidth 16)
    let v : Byte := reg &&& (hi8 base + 1)
    let target : Addr := if hi8 base = hi8 ea then ea else word16 v (lo8 ea)
    (∀ ram' q, WritesAt (s.afterPointers o) target v ram' q →
      ∃ h, exec i s = .next { s' with ram := ram', pc := s.pc + o.size, history := h, ppuScript := q }) ∧
    (∀ k, WriteStops (s.afterPointers o) target v k →
      ∃ h, exec i s = .fault (dataFault i s k target .dataWrite h))

/-- R279 (the spec's decision D13): the meaning of each of the seven unstable opcode bytes is a refusal of that byte while
unstable opcodes are not admitted, and no other meaning ever refuses. -/
def Obligations.OnlyUnstableMeaningsRefuse : Prop :=
  ∀ (i : Instr) (s : State),
    (isUnstable i.opcode = true → s.config.admitUnstable = false → exec i s = .refused (.unstableOpcode i.opcode)) ∧
    (∀ e, exec i s = .refused e → isUnstable i.opcode = true ∧ s.config.admitUnstable = false)

/-! ### Whole-machine rules -/

/-- R311 (the record is the spec's decision D19): the record of a fatal error in an instruction's body names the
instruction's address and opcode byte and the last access made, which is one its rule names; every access before it stays
in the history, in order, and none follows it. That the faulting access is in the history is the model's (log 14), and that
the operand bytes are read before the body (log 13, 23). -/
def Obligations.FatalRecordNamesTheInstruction : Prop :=
  ∀ (i : Instr) (s : State) (f : Fault), exec i s = .fault f →
    f.record.opaddr = s.pc - 1 ∧ f.record.opcode = some i.opcode ∧ s.history <+: f.history ∧
    (∃ e, f.history.getLast? = some e ∧ f.record.addr = e.addr ∧ f.record.access = some e.kind) ∧
    f.history.map access <+: s.history.map access ++ bodyAccesses i s

/-- R97, R98: every opcode not in `PC_SETTING` advances `PC` by its length less one, and the halts leave it at
`opaddr + 1`. -/
def Obligations.GenericAdvancePastOperand : Prop :=
  ∀ (i : Instr) (s t : State), exec i s = .next t →
    (setsPc i.mnemonic = false → t.pc = s.pc + BitVec.ofNat 16 (i.length - 1)) ∧
    (i.mnemonic = .BRK ∨ i.mnemonic = .KIL → t.pc = s.pc)

/-- R111: an instruction that is no store, no memory read-modify-write and no push leaves every byte of memory as it was. -/
def Obligations.NonStoringLeaveMemory : Prop :=
  ∀ (i : Instr) (s t : State), exec i s = .next t → isStoring i.mnemonic = false →
    (isModifying i.mnemonic = false ∨ i.operand = .accumulator) →
    i.mnemonic ∉ ([.PHA, .PHP, .JSR] : List Mnemonic) →
    t.ram = s.ram ∧ ∀ b, t.peek b = s.peek b

/-- R53, R111: a store or read-modify-write leaves every byte but the one at its effective address (or, for a high store, at
its target), and a push every byte but the pushed ones. -/
def Obligations.StoringLeavesOtherBytes : Prop :=
  ∀ (i : Instr) (s t : State), exec i s = .next t →
    (((isStoring i.mnemonic = true ∧ isHighStore i.mnemonic = false) ∨
        (isModifying i.mnemonic = true ∧ i.operand ≠ .accumulator)) →
      ∀ ea u, resolve i.operand s = .ok (ea, u) → ∀ b, sameRamByte s.prgSize ea b = false → t.peek b = s.peek b) ∧
    (isHighStore i.mnemonic = true →
      ∀ base u, resolveBase i.operand s = .ok (base, u) →
        let v : Byte := highRegister i.mnemonic s &&& (hi8 base + 1)
        ∀ b, sameRamByte s.prgSize (highTarget base (base + indexOf i.operand s) v) b = false → t.peek b = s.peek b) ∧
    (i.mnemonic ∈ ([.PHA, .PHP] : List Mnemonic) →
      ∀ b, sameRamByte s.prgSize (stackAddr s.sp) b = false → t.peek b = s.peek b) ∧
    (i.mnemonic = .JSR →
      ∀ b, sameRamByte s.prgSize (stackAddr s.sp) b = false → sameRamByte s.prgSize (stackAddr (s.sp - 1)) b = false →
        t.peek b = s.peek b)

/-- R21, R22, R26, R37, R38: each register is written by the instructions the rules name and by no other; the image, its
length and the parameters by none; the run status by the halts alone. The oracle's ready answers, the model's own field
(log 9), are only used up. -/
def Obligations.RegistersWrittenOnlyByNamedInstructions : Prop :=
  ∀ (i : Instr) (s t : State), exec i s = .next t →
    (i.mnemonic ∉ ([.LDA, .TXA, .TYA, .PLA, .ADC, .SBC, .AND, .ORA, .EOR, .LAX, .ISB, .SLO, .RLA, .SRE, .RRA, .ANC, .ALR,
      .ARR, .LAS, .XAA, .LXA] : List Mnemonic) → i.operand ≠ .accumulator → t.a = s.a) ∧
    (i.mnemonic ∉ ([.LDX, .TAX, .TSX, .INX, .DEX, .LAX, .AXS, .LAS, .LXA] : List Mnemonic) → t.x = s.x) ∧
    (i.mnemonic ∉ ([.LDY, .TAY, .INY, .DEY] : List Mnemonic) → t.y = s.y) ∧
    (i.mnemonic ∉ ([.TXS, .PHA, .PHP, .PLA, .PLP, .JSR, .RTS, .RTI, .LAS, .TAS] : List Mnemonic) → t.sp = s.sp) ∧
    (i.mnemonic ∉ ([.BRK, .KIL] : List Mnemonic) → t.status = s.status) ∧
    t.prg = s.prg ∧ t.prgSize = s.prgSize ∧ t.config = s.config ∧ t.ppuScript <:+ s.ppuScript

/-- R23: each flag is written by the instructions of its row and by no other. -/
def Obligations.FlagsWrittenOnlyByNamedInstructions : Prop :=
  ∀ (i : Instr) (s t : State), exec i s = .next t →
    (i.mnemonic ∉ ([.ADC, .SBC, .CMP, .CPX, .CPY, .ASL, .LSR, .ROL, .ROR, .CLC, .SEC, .PLP, .RTI, .SLO, .RLA, .SRE, .RRA,
      .DCP, .ISB, .ANC, .ALR, .ARR, .AXS] : List Mnemonic) → t.flag .C = s.flag .C) ∧
    (i.mnemonic ∉ ([.CLI, .SEI, .PLP, .RTI] : List Mnemonic) → t.flag .I = s.flag .I) ∧
    (i.mnemonic ∉ ([.CLD, .SED, .PLP, .RTI] : List Mnemonic) → t.flag .D = s.flag .D) ∧
    (i.mnemonic ∉ ([.BRK, .PLP, .RTI] : List Mnemonic) → t.flag .B = s.flag .B) ∧
    (i.mnemonic ∉ ([.PLP, .RTI] : List Mnemonic) → t.flag .B2 = s.flag .B2) ∧
    (i.mnemonic ∉ ([.ADC, .SBC, .BIT, .CLV, .PLP, .RTI, .RRA, .ISB, .ARR] : List Mnemonic) → t.flag .V = s.flag .V) ∧
    (i.mnemonic ∉ ([.LDA, .LDX, .LDY, .TAX, .TAY, .TXA, .TYA, .TSX, .PLA, .ADC, .SBC, .AND, .ORA, .EOR, .CMP, .CPX, .CPY,
      .BIT, .INC, .DEC, .INX, .INY, .DEX, .DEY, .ASL, .LSR, .ROL, .ROR, .LAX, .LAS, .DCP, .ISB, .SLO, .RLA, .SRE, .RRA,
      .ANC, .ALR, .ARR, .AXS, .XAA, .LXA, .PLP, .RTI] : List Mnemonic) →
      t.flag .Z = s.flag .Z ∧ t.flag .N = s.flag .N)

/-- R66, R75 (the spec's decision D6), R74, R282 to R285 (D25): an instruction's body makes exactly the accesses its rule
names, in their order, with no dummy access; a high store's are its pointer reads and one write of its target. That the body reads no
operand byte, an immediate one neither, is the model's (log 13, 23): the fetch has read them. -/
def Obligations.BodyAccessesInOrder : Prop :=
  ∀ (i : Instr) (s t : State), exec i s = .next t →
    s.history <+: t.history ∧ t.history.map access = s.history.map access ++ bodyAccesses i s

/-- R24, R321: the D and I flags gate nothing. Whatever D or I is, an instruction does the same to everything else and
leaves the flag; PLP, RTI and the instructions that write the flag do the same to everything. PHP, which pushes the
flag, is not among them. -/
def Obligations.DecimalAndInterruptFlagsGateNothing : Prop :=
  ∀ (i : Instr) (s : State) (f : Flag) (v : Bool), f = .D ∨ f = .I → i.mnemonic ≠ .PHP →
    let writes : List Mnemonic := if f = .D then [.PLP, .RTI, .CLD, .SED] else [.PLP, .RTI, .CLI, .SEI]
    (i.mnemonic ∉ writes → exec i (s.setFlag f v) = mapNext (·.setFlag f v) (exec i s)) ∧
    (i.mnemonic ∈ writes → exec i (s.setFlag f v) = exec i s)

/-- Every step keeps the memory arrays in canonical form and within their lengths (R38, R53, R57), leaves the image and the
parameters as they are (R38), and only adds to the history (R74). -/
def Obligations.StepKeepsMemoryCanonical : Prop :=
  ∀ s t : State, s.memoryOk = true → step s = .next t →
    t.memoryOk = true ∧ t.prg = s.prg ∧ t.prgSize = s.prgSize ∧ t.config = s.config ∧ s.history <+: t.history

/-- R41: at every instruction boundary B2 is 1, and B is 0 unless the run has halted on BRK with `BRK_SETS_B`; every step
keeps it. "Has halted" is read of the current status, the model's choice (log 27), so a run resumed after a halt (R346) is
covered by the second clause: B2 is 1, and B is 0 unless `BRK_SETS_B`, which every step and every start of a run keep, and
`reset()` makes. -/
def Obligations.StepKeepsStatusBits : Prop :=
  (∀ s t : State, s.statusBitsOk = true → step s = .next t → t.statusBitsOk = true) ∧
  (∀ s t : State, s.breakBitOk = true → step s = .next t ∨ startRun s = .next t → t.breakBitOk = true) ∧
  (∀ s t : State, hostReset s = .next t → t.statusBitsOk = true ∧ t.breakBitOk = true)

/-- The reset state meets both invariants. -/
def Obligations.ResetStateMeetsInvariants : Prop :=
  State.reset.memoryOk = true ∧ State.reset.statusBitsOk = true
end

