-- ==== Sys2Proof/Laws/Memory.lean ====
section
/-! SUPPORT. Memory arrays: read after write, and that writes keep the canonical form. -/

namespace Sys2Proof.Machine

@[simp] theorem Memory.get_nil (i : Nat) : Memory.get [] i = unlistedByte := rfl

theorem Memory.get_of_wfFrom_lt {m : Memory} {lo i : Nat} (h : Memory.wfFrom lo m = true) (hi : i < lo) :
    Memory.get m i = unlistedByte := by
  induction m generalizing lo with
  | nil => rfl
  | cons c rest ih =>
    obtain ⟨j, v⟩ := c
    simp only [Memory.wfFrom, Bool.and_eq_true, decide_eq_true_eq] at h
    rw [Memory.get, if_neg (by omega)]
    exact ih h.2 (by omega)

theorem Memory.wfFrom_mono {m : Memory} {lo lo' : Nat} (h : Memory.wfFrom lo m = true) (hl : lo' ≤ lo) :
    Memory.wfFrom lo' m = true := by
  cases m with
  | nil => rfl
  | cons c rest =>
    simp only [Memory.wfFrom, Bool.and_eq_true, decide_eq_true_eq] at h ⊢
    exact ⟨⟨by omega, h.1.2⟩, h.2⟩

theorem Memory.get_cons (i j : Nat) (v : Byte) (m : Memory) (h : Memory.wfFrom (i + 1) m = true) :
    Memory.get (Memory.cons i v m) j = if i = j then v else Memory.get m j := by
  unfold Memory.cons
  by_cases hv : v = unlistedByte
  · by_cases hij : i = j
    · simp [hv, ← hij, Memory.get_of_wfFrom_lt h (Nat.lt_succ_self i)]
    · simp [hv, hij]
  · simp [hv, Memory.get]

theorem Memory.wfFrom_cons {i lo : Nat} {v : Byte} {m : Memory} (h : Memory.wfFrom (i + 1) m = true) (hi : lo ≤ i) :
    Memory.wfFrom lo (Memory.cons i v m) = true := by
  unfold Memory.cons
  split
  · exact Memory.wfFrom_mono h (by omega)
  · simp [Memory.wfFrom, *]

theorem Memory.wfFrom_set {m : Memory} {lo i : Nat} {v : Byte} (h : Memory.wfFrom lo m = true) (hi : lo ≤ i) :
    Memory.wfFrom lo (Memory.set m i v) = true := by
  induction m generalizing lo with
  | nil => exact Memory.wfFrom_cons rfl hi
  | cons c rest ih =>
    obtain ⟨j, w⟩ := c
    simp only [Memory.wfFrom, Bool.and_eq_true, decide_eq_true_eq] at h
    rw [Memory.set]
    split
    · simp only [Memory.wfFrom, Bool.and_eq_true, decide_eq_true_eq]
      exact ⟨h.1, ih h.2 (by omega)⟩
    · split
      · subst j; exact Memory.wfFrom_cons h.2 hi
      · exact Memory.wfFrom_cons (by simp only [Memory.wfFrom, Bool.and_eq_true, decide_eq_true_eq]; exact ⟨⟨by omega, h.1.2⟩, h.2⟩) hi

theorem Memory.get_set_of_wfFrom {m : Memory} {lo : Nat} (h : Memory.wfFrom lo m = true) (i j : Nat) (v : Byte) :
    Memory.get (Memory.set m i v) j = if i = j then v else Memory.get m j := by
  induction m generalizing lo with
  | nil => exact Memory.get_cons i j v [] rfl
  | cons c rest ih =>
    obtain ⟨k, w⟩ := c
    simp only [Memory.wfFrom, Bool.and_eq_true, decide_eq_true_eq] at h
    rw [Memory.set]
    split
    · rename_i hk
      rw [Memory.get, Memory.get, ih h.2]
      by_cases hkj : k = j
      · simp [hkj, show i ≠ j by omega]
      · simp [hkj]
    · split
      · subst k
        rw [Memory.get_cons i j v rest h.2, Memory.get]
        by_cases hij : i = j <;> simp [hij]
      · exact Memory.get_cons i j v _ (by simp only [Memory.wfFrom, Bool.and_eq_true, decide_eq_true_eq]; exact ⟨⟨by omega, h.1.2⟩, h.2⟩)

/-- A write keeps the canonical form. -/
theorem Memory.wf_set {m : Memory} (h : Memory.wf m = true) (i : Nat) (v : Byte) : Memory.wf (Memory.set m i v) = true :=
  Memory.wfFrom_set h (Nat.zero_le i)

/-- What a read finds after a write. -/
theorem Memory.get_set {m : Memory} (h : Memory.wf m = true) (i j : Nat) (v : Byte) :
    Memory.get (Memory.set m i v) j = if i = j then v else Memory.get m j :=
  Memory.get_set_of_wfFrom h i j v

theorem Memory.get_set_same {m : Memory} (h : Memory.wf m = true) (i : Nat) (v : Byte) :
    Memory.get (Memory.set m i v) i = v := by simp [Memory.get_set h]

theorem Memory.get_cons_ne {i j : Nat} (hij : i ≠ j) (v : Byte) (m : Memory) :
    Memory.get (Memory.cons i v m) j = Memory.get m j := by
  unfold Memory.cons; split <;> simp [Memory.get, hij]

/-- A write leaves every other byte alone, in canonical form or not. -/
theorem Memory.get_set_ne {i j : Nat} (hij : i ≠ j) (m : Memory) (v : Byte) :
    Memory.get (Memory.set m i v) j = Memory.get m j := by
  induction m with
  | nil => exact Memory.get_cons_ne hij v []
  | cons c rest ih =>
    obtain ⟨k, w⟩ := c
    rw [Memory.set]
    split
    · rw [Memory.get, Memory.get, ih]
    · split
      · subst k; rw [Memory.get_cons_ne hij, Memory.get, if_neg hij]
      · exact Memory.get_cons_ne hij v _

theorem Memory.below_cons {n i : Nat} {v : Byte} {m : Memory} (h : Memory.below n m = true) (hi : i < n) :
    Memory.below n (Memory.cons i v m) = true := by
  unfold Memory.cons
  split
  · exact h
  · simpa [Memory.below, hi] using h

/-- A write below the length keeps every listed index below it. -/
theorem Memory.below_set {n i : Nat} {m : Memory} (h : Memory.below n m = true) (hi : i < n) (v : Byte) :
    Memory.below n (Memory.set m i v) = true := by
  induction m with
  | nil => exact Memory.below_cons rfl hi
  | cons c rest ih =>
    obtain ⟨j, w⟩ := c
    have hr : Memory.below n rest = true := by
      simp only [Memory.below, List.all_cons, Bool.and_eq_true] at h ⊢; exact h.2
    have hj : j < n := by simp only [Memory.below, List.all_cons, Bool.and_eq_true, decide_eq_true_eq] at h; exact h.1
    rw [Memory.set]
    split
    · have := ih hr
      simp only [Memory.below, List.all_cons, Bool.and_eq_true, decide_eq_true_eq] at this ⊢
      exact ⟨hj, this⟩
    · split
      · exact Memory.below_cons hr hi
      · exact Memory.below_cons h hi

/-- Every memory operation of the machine keeps the canonical form: consecutive bytes placed at construction too. -/
theorem Memory.wfFrom_ofBytes (i : Nat) (bytes : List Byte) : Memory.wfFrom i (Memory.ofBytes i bytes) = true := by
  induction bytes generalizing i with
  | nil => rfl
  | cons v rest ih => exact Memory.wfFrom_cons (ih (i + 1)) (Nat.le_refl i)

/-- Arrays in canonical form that read the same are the same data. -/
theorem Memory.eq_of_get_eq {m n : Memory} {lo : Nat} (hm : Memory.wfFrom lo m = true) (hn : Memory.wfFrom lo n = true)
    (h : ∀ i, Memory.get m i = Memory.get n i) : m = n := by
  induction m generalizing n lo with
  | nil =>
    cases n with
    | nil => rfl
    | cons c rest =>
      obtain ⟨j, w⟩ := c
      have := h j
      simp_all [Memory.wfFrom, Memory.get]
  | cons c rest ih =>
    obtain ⟨i, v⟩ := c
    simp only [Memory.wfFrom, Bool.and_eq_true, decide_eq_true_eq, bne_iff_ne] at hm
    cases n with
    | nil => have := h i; simp_all [Memory.get]
    | cons d rest' =>
      obtain ⟨j, w⟩ := d
      simp only [Memory.wfFrom, Bool.and_eq_true, decide_eq_true_eq, bne_iff_ne] at hn
      have hij : i = j := by
        have hi := h i
        have hj := h j
        simp only [Memory.get] at hi hj
        rcases Nat.lt_trichotomy i j with hlt | heq | hgt
        · simp only [if_true, show j ≠ i by omega, if_false] at hi
          rw [Memory.get_of_wfFrom_lt hn.2 (by omega)] at hi
          exact absurd hi hm.1.2
        · exact heq
        · simp only [if_true, show i ≠ j by omega, if_false] at hj
          rw [Memory.get_of_wfFrom_lt hm.2 (by omega)] at hj
          exact absurd hj.symm hn.1.2
      subst hij
      have hvw : v = w := by simpa [Memory.get] using h i
      subst hvw
      congr 1
      refine ih hm.2 hn.2 (fun k => ?_)
      by_cases hk : i = k
      · subst hk
        rw [Memory.get_of_wfFrom_lt hm.2 (by omega), Memory.get_of_wfFrom_lt hn.2 (by omega)]
      · simpa [Memory.get, hk] using h k

end Sys2Proof.Machine
end

