-- ==== Sys2Proof/Laws/State.lean ====
section
/-! SUPPORT. One lemma per field per state update, so that no proof unfolds an update. -/

namespace Sys2Proof.Machine.State

variable (s : State)

@[simp] theorem log_a (k : AccessKind) (addr : Addr) (v : Option Byte) (call : Option PpuCall) : (s.log k addr v call).a = s.a := rfl
@[simp] theorem log_x (k : AccessKind) (addr : Addr) (v : Option Byte) (call : Option PpuCall) : (s.log k addr v call).x = s.x := rfl
@[simp] theorem log_y (k : AccessKind) (addr : Addr) (v : Option Byte) (call : Option PpuCall) : (s.log k addr v call).y = s.y := rfl
@[simp] theorem log_sp (k : AccessKind) (addr : Addr) (v : Option Byte) (call : Option PpuCall) : (s.log k addr v call).sp = s.sp := rfl
@[simp] theorem log_pc (k : AccessKind) (addr : Addr) (v : Option Byte) (call : Option PpuCall) : (s.log k addr v call).pc = s.pc := rfl
@[simp] theorem log_p (k : AccessKind) (addr : Addr) (v : Option Byte) (call : Option PpuCall) : (s.log k addr v call).p = s.p := rfl
@[simp] theorem log_ram (k : AccessKind) (addr : Addr) (v : Option Byte) (call : Option PpuCall) : (s.log k addr v call).ram = s.ram := rfl
@[simp] theorem log_prg (k : AccessKind) (addr : Addr) (v : Option Byte) (call : Option PpuCall) : (s.log k addr v call).prg = s.prg := rfl
@[simp] theorem log_prgSize (k : AccessKind) (addr : Addr) (v : Option Byte) (call : Option PpuCall) : (s.log k addr v call).prgSize = s.prgSize := rfl
@[simp] theorem log_status (k : AccessKind) (addr : Addr) (v : Option Byte) (call : Option PpuCall) : (s.log k addr v call).status = s.status := rfl
@[simp] theorem log_history (k : AccessKind) (addr : Addr) (v : Option Byte) (call : Option PpuCall) : (s.log k addr v call).history = s.history ++ [{ kind := k, addr := addr, value := v, call := call }] := rfl
@[simp] theorem log_ppuScript (k : AccessKind) (addr : Addr) (v : Option Byte) (call : Option PpuCall) : (s.log k addr v call).ppuScript = s.ppuScript := rfl
@[simp] theorem log_config (k : AccessKind) (addr : Addr) (v : Option Byte) (call : Option PpuCall) : (s.log k addr v call).config = s.config := rfl

@[simp] theorem setFlag_a (f : Flag) (v : Bool) : (s.setFlag f v).a = s.a := rfl
@[simp] theorem setFlag_x (f : Flag) (v : Bool) : (s.setFlag f v).x = s.x := rfl
@[simp] theorem setFlag_y (f : Flag) (v : Bool) : (s.setFlag f v).y = s.y := rfl
@[simp] theorem setFlag_sp (f : Flag) (v : Bool) : (s.setFlag f v).sp = s.sp := rfl
@[simp] theorem setFlag_pc (f : Flag) (v : Bool) : (s.setFlag f v).pc = s.pc := rfl
@[simp] theorem setFlag_p (f : Flag) (v : Bool) : (s.setFlag f v).p = withFlag f v s.p := rfl
@[simp] theorem setFlag_ram (f : Flag) (v : Bool) : (s.setFlag f v).ram = s.ram := rfl
@[simp] theorem setFlag_prg (f : Flag) (v : Bool) : (s.setFlag f v).prg = s.prg := rfl
@[simp] theorem setFlag_prgSize (f : Flag) (v : Bool) : (s.setFlag f v).prgSize = s.prgSize := rfl
@[simp] theorem setFlag_status (f : Flag) (v : Bool) : (s.setFlag f v).status = s.status := rfl
@[simp] theorem setFlag_history (f : Flag) (v : Bool) : (s.setFlag f v).history = s.history := rfl
@[simp] theorem setFlag_ppuScript (f : Flag) (v : Bool) : (s.setFlag f v).ppuScript = s.ppuScript := rfl
@[simp] theorem setFlag_config (f : Flag) (v : Bool) : (s.setFlag f v).config = s.config := rfl

@[simp] theorem setZN_a (v : Byte) : (s.setZN v).a = s.a := rfl
@[simp] theorem setZN_x (v : Byte) : (s.setZN v).x = s.x := rfl
@[simp] theorem setZN_y (v : Byte) : (s.setZN v).y = s.y := rfl
@[simp] theorem setZN_sp (v : Byte) : (s.setZN v).sp = s.sp := rfl
@[simp] theorem setZN_pc (v : Byte) : (s.setZN v).pc = s.pc := rfl
@[simp] theorem setZN_p (v : Byte) : (s.setZN v).p = withZN v s.p := rfl
@[simp] theorem setZN_ram (v : Byte) : (s.setZN v).ram = s.ram := rfl
@[simp] theorem setZN_prg (v : Byte) : (s.setZN v).prg = s.prg := rfl
@[simp] theorem setZN_prgSize (v : Byte) : (s.setZN v).prgSize = s.prgSize := rfl
@[simp] theorem setZN_status (v : Byte) : (s.setZN v).status = s.status := rfl
@[simp] theorem setZN_history (v : Byte) : (s.setZN v).history = s.history := rfl
@[simp] theorem setZN_ppuScript (v : Byte) : (s.setZN v).ppuScript = s.ppuScript := rfl
@[simp] theorem setZN_config (v : Byte) : (s.setZN v).config = s.config := rfl

@[simp] theorem setShiftFlags_a (r : Shifted) : (s.setShiftFlags r).a = s.a := rfl
@[simp] theorem setShiftFlags_x (r : Shifted) : (s.setShiftFlags r).x = s.x := rfl
@[simp] theorem setShiftFlags_y (r : Shifted) : (s.setShiftFlags r).y = s.y := rfl
@[simp] theorem setShiftFlags_sp (r : Shifted) : (s.setShiftFlags r).sp = s.sp := rfl
@[simp] theorem setShiftFlags_pc (r : Shifted) : (s.setShiftFlags r).pc = s.pc := rfl
@[simp] theorem setShiftFlags_p (r : Shifted) : (s.setShiftFlags r).p = withZN r.value (withFlag .C r.carry s.p) := rfl
@[simp] theorem setShiftFlags_ram (r : Shifted) : (s.setShiftFlags r).ram = s.ram := rfl
@[simp] theorem setShiftFlags_prg (r : Shifted) : (s.setShiftFlags r).prg = s.prg := rfl
@[simp] theorem setShiftFlags_prgSize (r : Shifted) : (s.setShiftFlags r).prgSize = s.prgSize := rfl
@[simp] theorem setShiftFlags_status (r : Shifted) : (s.setShiftFlags r).status = s.status := rfl
@[simp] theorem setShiftFlags_history (r : Shifted) : (s.setShiftFlags r).history = s.history := rfl
@[simp] theorem setShiftFlags_ppuScript (r : Shifted) : (s.setShiftFlags r).ppuScript = s.ppuScript := rfl
@[simp] theorem setShiftFlags_config (r : Shifted) : (s.setShiftFlags r).config = s.config := rfl

@[simp] theorem advance_a (n : Addr) : (s.advance n).a = s.a := rfl
@[simp] theorem advance_x (n : Addr) : (s.advance n).x = s.x := rfl
@[simp] theorem advance_y (n : Addr) : (s.advance n).y = s.y := rfl
@[simp] theorem advance_sp (n : Addr) : (s.advance n).sp = s.sp := rfl
@[simp] theorem advance_pc (n : Addr) : (s.advance n).pc = s.pc + n := rfl
@[simp] theorem advance_p (n : Addr) : (s.advance n).p = s.p := rfl
@[simp] theorem advance_ram (n : Addr) : (s.advance n).ram = s.ram := rfl
@[simp] theorem advance_prg (n : Addr) : (s.advance n).prg = s.prg := rfl
@[simp] theorem advance_prgSize (n : Addr) : (s.advance n).prgSize = s.prgSize := rfl
@[simp] theorem advance_status (n : Addr) : (s.advance n).status = s.status := rfl
@[simp] theorem advance_history (n : Addr) : (s.advance n).history = s.history := rfl
@[simp] theorem advance_ppuScript (n : Addr) : (s.advance n).ppuScript = s.ppuScript := rfl
@[simp] theorem advance_config (n : Addr) : (s.advance n).config = s.config := rfl

@[simp] theorem afterAnswer_a : (s.afterAnswer).a = s.a := rfl
@[simp] theorem afterAnswer_x : (s.afterAnswer).x = s.x := rfl
@[simp] theorem afterAnswer_y : (s.afterAnswer).y = s.y := rfl
@[simp] theorem afterAnswer_sp : (s.afterAnswer).sp = s.sp := rfl
@[simp] theorem afterAnswer_pc : (s.afterAnswer).pc = s.pc := rfl
@[simp] theorem afterAnswer_p : (s.afterAnswer).p = s.p := rfl
@[simp] theorem afterAnswer_ram : (s.afterAnswer).ram = s.ram := rfl
@[simp] theorem afterAnswer_prg : (s.afterAnswer).prg = s.prg := rfl
@[simp] theorem afterAnswer_prgSize : (s.afterAnswer).prgSize = s.prgSize := rfl
@[simp] theorem afterAnswer_status : (s.afterAnswer).status = s.status := rfl
@[simp] theorem afterAnswer_history : (s.afterAnswer).history = s.history := rfl
@[simp] theorem afterAnswer_ppuScript : (s.afterAnswer).ppuScript = s.ppuScript.tail := rfl
@[simp] theorem afterAnswer_config : (s.afterAnswer).config = s.config := rfl

end Sys2Proof.Machine.State
end

