-- ==== Sys2Proof/Laws/Bus.lean ====
section
/-! SUPPORT. One spec lemma per bus operation: what it answers in each case, and what a next state tells of it. Later proofs
cite these and never unfold the bus. -/

namespace Sys2Proof.Machine

/-! ### Decoding the pages that are RAM -/

theorem busDecode_zeroPage (z : PrgSize) (b : Byte) : busDecode z (zext16 b) = .ram b.toNat := by
  have h : (zext16 b).toNat = b.toNat := by simp [zext16]; omega
  have hm : (zext16 b &&& 0x07FF) = zext16 b := by
    refine BitVec.eq_of_getLsbD_eq (fun i hi => ?_)
    simp only [zext16, BitVec.getLsbD_and, BitVec.getLsbD_setWidth]
    by_cases h8 : i < 8
    · interval_cases i <;> simp
    · simp [BitVec.getLsbD_of_ge b i (by omega)]
  rw [busDecode, if_pos (by rw [h]; omega), hm, h]

theorem stackAddr_toNat (sp : Byte) : (stackAddr sp).toNat = 0x100 + sp.toNat := by
  have : ∀ b : Byte, (stackAddr b).toNat = 0x100 + b.toNat := by decide
  exact this sp

theorem busDecode_stack (z : PrgSize) (sp : Byte) : busDecode z (stackAddr sp) = .ram (0x100 + sp.toNat) := by
  have hm : ∀ b : Byte, (stackAddr b &&& 0x07FF).toNat = 0x100 + b.toNat := by decide
  rw [busDecode, if_pos (by rw [stackAddr_toNat]; omega), hm]

/-! ### Reads -/

theorem read8_of_readsAt {k : AccessKind} {addr : Addr} {s : State} {m : Byte} {q : List PpuAnswer}
    (h : ReadsAt s addr m q) :
    read8 k addr s = .ok (m, { s with
      history := s.history ++ [{ kind := k, addr := addr, value := some m, call := readCallAt s.prgSize addr }]
      ppuScript := q }) := by
  unfold ReadsAt at h
  unfold read8 readCallAt
  split at h
  · obtain ⟨rfl, rfl⟩ := h; simp_all [State.log]
  · obtain ⟨rfl, rfl⟩ := h; simp_all [State.log]
  · obtain ⟨rfl, rfl⟩ := h; simp_all [State.log]
  · obtain ⟨call, hc, ha, rfl⟩ := h; simp_all [State.log, State.afterAnswer]

theorem read8_of_readStops {k : AccessKind} {addr : Addr} {s : State} {kd : FatalKind} (h : ReadStops s addr kd) :
    ∃ hist, read8 k addr s = .error ⟨kd, addr, some k, hist⟩ := by
  unfold ReadStops at h
  unfold read8
  split at h
  · exact h.elim
  · exact h.elim
  · exact h.elim
  · rename_i r hd
    rcases h with ⟨hc, rfl⟩ | ⟨call, hc, ha, rfl⟩ <;> simp [*]

/-- All a read that answers can have done. -/
theorem read8_inv {k : AccessKind} {addr : Addr} {s t : State} {m : Byte} (h : read8 k addr s = .ok (m, t)) :
    ReadsAt s addr m t.ppuScript ∧ t = { s with
      history := s.history ++ [{ kind := k, addr := addr, value := some m, call := readCallAt s.prgSize addr }]
      ppuScript := t.ppuScript } := by
  unfold read8 at h
  unfold ReadsAt readCallAt
  split at h
  · injection h with h; injection h with h1 h2; subst h1 h2; simp_all [State.log]
  · injection h with h; injection h with h1 h2; subst h1 h2; simp_all [State.log]
  · injection h with h; injection h with h1 h2; subst h1 h2; simp_all [State.log]
  · rename_i r hd
    split at h
    · exact absurd h (by simp)
    · rename_i call hc
      split at h
      · rename_i v ha
        injection h with h; injection h with h1 h2; subst h1 h2
        simp [hd, hc, ha, State.log, State.afterAnswer]
      · exact absurd h (by simp)

theorem read8_error {k : AccessKind} {addr : Addr} {s : State} {f : BusFault} (h : read8 k addr s = .error f) :
    ReadStops s addr f.kind ∧ f.addr = addr ∧ f.access = some k := by
  unfold read8 at h
  unfold ReadStops
  split at h
  · exact absurd h (by simp)
  · exact absurd h (by simp)
  · exact absurd h (by simp)
  · rename_i r hd
    split at h
    · rename_i hc; injection h with h; subst h; simp [hd, hc]
    · rename_i call hc
      split at h
      · exact absurd h (by simp)
      · rename_i ha; injection h with h; subst h; simp [hd, hc, ha]

theorem readsAt_of_ram {s : State} {addr : Addr} {i : Nat} (h : busDecode s.prgSize addr = .ram i) :
    ReadsAt s addr (Memory.get s.ram i) s.ppuScript := by simp [ReadsAt, h]

theorem readStops_of_writeOnly {s : State} {addr : Addr} {r : PpuReg} (h : busDecode s.prgSize addr = .ppu r)
    (hr : r.readCall = none) : ReadStops s addr .writeOnlyRead := by simp [ReadStops, h, hr]

theorem readsAt_of_prg {s : State} {addr : Addr} {i : Nat} (h : busDecode s.prgSize addr = .prg i) :
    ReadsAt s addr (Memory.get s.prg i) s.ppuScript := by simp [ReadsAt, h]

theorem readsAt_of_answer {s : State} {addr : Addr} {r : PpuReg} {call : PpuCall} {m : Byte}
    (h : busDecode s.prgSize addr = .ppu r) (hr : r.readCall = some call) (ha : s.ppuAnswer call = .done m) :
    ReadsAt s addr m s.ppuScript.tail := by simp [ReadsAt, h, hr, ha]

theorem readsAt_of_peek {s : State} {addr : Addr} {m : Byte} (h : s.peek addr = some m) :
    ReadsAt s addr m s.ppuScript ∧ readCallAt s.prgSize addr = none := by
  unfold State.peek at h
  unfold ReadsAt readCallAt
  split at h <;> simp_all

/-! ### Writes -/

theorem write8_of_writesAt {k : AccessKind} {addr : Addr} {s : State} {v : Byte} {ram' : Memory} {q : List PpuAnswer}
    (h : WritesAt s addr v ram' q) :
    write8 k addr v s = .ok { s with
      ram := ram'
      history := s.history ++ [{ kind := k, addr := addr, value := some v, call := writeCallAt s.prgSize addr v }]
      ppuScript := q } := by
  unfold WritesAt at h
  unfold write8 writeCallAt
  split at h
  · obtain ⟨rfl, rfl⟩ := h; simp_all [State.log]
  · exact h.elim
  · obtain ⟨rfl, rfl⟩ := h; simp_all [State.log]
  · obtain ⟨rfl, call, w, hc, ha, rfl⟩ := h; simp_all [State.log, State.afterAnswer]

theorem write8_of_writeStops {k : AccessKind} {addr : Addr} {s : State} {v : Byte} {kd : FatalKind}
    (h : WriteStops s addr v kd) : ∃ hist, write8 k addr v s = .error ⟨kd, addr, some k, hist⟩ := by
  unfold WriteStops at h
  unfold write8
  split at h
  · exact h.elim
  · simp_all
  · exact h.elim
  · rename_i r hd
    rcases h with ⟨hc, rfl⟩ | ⟨call, hc, ha, rfl⟩ <;> simp [*]

/-- All a write that answers can have done. -/
theorem write8_inv {k : AccessKind} {addr : Addr} {s t : State} {v : Byte} (h : write8 k addr v s = .ok t) :
    WritesAt s addr v t.ram t.ppuScript ∧ t = { s with
      ram := t.ram
      history := s.history ++ [{ kind := k, addr := addr, value := some v, call := writeCallAt s.prgSize addr v }]
      ppuScript := t.ppuScript } := by
  unfold write8 at h
  unfold WritesAt writeCallAt
  split at h
  · injection h with h; subst h; simp_all [State.log]
  · exact absurd h (by simp)
  · injection h with h; subst h; simp_all [State.log]
  · rename_i r hd
    split at h
    · exact absurd h (by simp)
    · rename_i call hc
      split at h
      · rename_i w ha
        injection h with h; subst h
        simp [hd, hc, ha, State.log, State.afterAnswer]
      · exact absurd h (by simp)

theorem write8_error {k : AccessKind} {addr : Addr} {s : State} {v : Byte} {f : BusFault}
    (h : write8 k addr v s = .error f) : WriteStops s addr v f.kind ∧ f.addr = addr ∧ f.access = some k := by
  unfold write8 at h
  unfold WriteStops
  split at h
  · exact absurd h (by simp)
  · injection h with h; subst h; simp_all
  · exact absurd h (by simp)
  · rename_i r hd
    split at h
    · rename_i hc; injection h with h; subst h; simp [hd, hc]
    · rename_i call hc
      split at h
      · exact absurd h (by simp)
      · rename_i ha; injection h with h; subst h; simp [hd, hc, ha]

theorem writesAt_of_ram {s : State} {addr : Addr} {i : Nat} (h : busDecode s.prgSize addr = .ram i) (v : Byte) :
    WritesAt s addr v (Memory.set s.ram i v) s.ppuScript := by simp [WritesAt, h]

theorem writeStops_of_prg {s : State} {addr : Addr} {i : Nat} (h : busDecode s.prgSize addr = .prg i) (v : Byte) :
    WriteStops s addr v .romWrite := by simp [WriteStops, h]

/-- A write that answers leaves every address alone that is not the same byte of RAM (rule R53). -/
theorem peek_of_write8 {k : AccessKind} {addr b : Addr} {s t : State} {v : Byte} (h : write8 k addr v s = .ok t)
    (hb : sameRamByte s.prgSize addr b = false) : t.peek b = s.peek b := by
  obtain ⟨hw, ht⟩ := write8_inv h
  rw [ht]
  unfold State.peek
  dsimp only
  unfold WritesAt at hw
  unfold sameRamByte at hb
  cases hd : busDecode s.prgSize b <;> simp only [Option.some.injEq]
  rename_i j
  cases ha : busDecode s.prgSize addr <;> simp only [ha, hd] at hw hb
  · rw [hw.1, Memory.get_set_ne (by simpa using hb)]
  · rw [hw.1]
  · rw [hw.1]

/-! ### Pointers and effective addresses -/

theorem read16zp_eq (z : Byte) (s : State) :
    read16zp z s = .ok (s.zeroPageWord z, { s with history := s.history ++ pointerEvents s z }) := by
  have h1 := read8_of_readsAt (k := .pointer) (readsAt_of_ram (s := s) (busDecode_zeroPage s.prgSize z))
  rw [read16zp, h1]
  have h2 := fun t : State => read8_of_readsAt (k := .pointer) (readsAt_of_ram (s := t) (busDecode_zeroPage t.prgSize (z + 1)))
  simp only [bind, Except.bind, h2]
  simp [pointerEvents, State.zeroPageWord, readCallAt, busDecode_zeroPage]

/-- Resolving an operand that has an address gives its effective address, and the pointer reads are all it does
(rules R99 to R107). -/
theorem resolve_eq {o : Operand} (h : o.mode ≠ .noneAddressing) (s : State) :
    resolve o s = .ok (effectiveAddr o s, s.afterPointers o) := by
  cases o <;>
    simp_all [resolve, resolveBase, effectiveAddr, indexOf, State.afterPointers, Operand.mode, bind, Except.bind, read16zp_eq]

theorem resolveBase_eq {o : Operand} (h : o.mode ≠ .noneAddressing) (s : State) :
    resolveBase o s = .ok (highBase o s, s.afterPointers o) := by
  cases o <;>
    simp_all [highBase, resolveBase, effectiveAddr, indexOf, State.afterPointers, Operand.mode, read16zp_eq]

section
variable (s : State) (o : Operand)
@[simp] theorem State.afterPointers_a : (s.afterPointers o).a = s.a := by cases o <;> rfl
@[simp] theorem State.afterPointers_x : (s.afterPointers o).x = s.x := by cases o <;> rfl
@[simp] theorem State.afterPointers_y : (s.afterPointers o).y = s.y := by cases o <;> rfl
@[simp] theorem State.afterPointers_sp : (s.afterPointers o).sp = s.sp := by cases o <;> rfl
@[simp] theorem State.afterPointers_pc : (s.afterPointers o).pc = s.pc := by cases o <;> rfl
@[simp] theorem State.afterPointers_p : (s.afterPointers o).p = s.p := by cases o <;> rfl
@[simp] theorem State.afterPointers_ram : (s.afterPointers o).ram = s.ram := by cases o <;> rfl
@[simp] theorem State.afterPointers_prg : (s.afterPointers o).prg = s.prg := by cases o <;> rfl
@[simp] theorem State.afterPointers_prgSize : (s.afterPointers o).prgSize = s.prgSize := by cases o <;> rfl
@[simp] theorem State.afterPointers_status : (s.afterPointers o).status = s.status := by cases o <;> rfl
@[simp] theorem State.afterPointers_ppuScript : (s.afterPointers o).ppuScript = s.ppuScript := by cases o <;> rfl
@[simp] theorem State.afterPointers_config : (s.afterPointers o).config = s.config := by cases o <;> rfl
end

section
variable (s : State) (k : AccessKind) (addr : Addr) (m : Byte) (q : List PpuAnswer)
@[simp] theorem State.afterReadAs_a : (s.afterReadAs k addr m q).a = s.a := rfl
@[simp] theorem State.afterReadAs_x : (s.afterReadAs k addr m q).x = s.x := rfl
@[simp] theorem State.afterReadAs_y : (s.afterReadAs k addr m q).y = s.y := rfl
@[simp] theorem State.afterReadAs_sp : (s.afterReadAs k addr m q).sp = s.sp := rfl
@[simp] theorem State.afterReadAs_pc : (s.afterReadAs k addr m q).pc = s.pc := rfl
@[simp] theorem State.afterReadAs_p : (s.afterReadAs k addr m q).p = s.p := rfl
@[simp] theorem State.afterReadAs_ram : (s.afterReadAs k addr m q).ram = s.ram := rfl
@[simp] theorem State.afterReadAs_prg : (s.afterReadAs k addr m q).prg = s.prg := rfl
@[simp] theorem State.afterReadAs_prgSize : (s.afterReadAs k addr m q).prgSize = s.prgSize := rfl
@[simp] theorem State.afterReadAs_status : (s.afterReadAs k addr m q).status = s.status := rfl
@[simp] theorem State.afterReadAs_config : (s.afterReadAs k addr m q).config = s.config := rfl
@[simp] theorem State.afterReadAs_ppuScript : (s.afterReadAs k addr m q).ppuScript = q := rfl
end

/-- After its pointer reads a state differs in its history alone. -/
theorem State.afterPointers_eq (s : State) (o : Operand) :
    s.afterPointers o = { s with history := (s.afterPointers o).history } := by cases o <;> rfl

theorem State.peek_congr {s t : State} (h : s.ram = t.ram) (h1 : s.prg = t.prg) (h2 : s.prgSize = t.prgSize) (b : Addr) :
    s.peek b = t.peek b := by unfold State.peek; rw [h, h1, h2]

/-! ### The stack -/

theorem push8_eq (v : Byte) (s : State) :
    push8 v s = .ok { s with
      ram := Memory.set s.ram (0x100 + s.sp.toNat) v
      sp := s.sp - 1
      history := s.history ++ [{ kind := .stackWrite, addr := stackAddr s.sp, value := some v, call := none }] } := by
  rw [push8, write8_of_writesAt (writesAt_of_ram (busDecode_stack s.prgSize s.sp) v)]
  simp [bind, Except.bind, writeCallAt, busDecode_stack]

theorem pop8_eq (s : State) :
    pop8 s = .ok (Memory.get s.ram (0x100 + (s.sp + 1).toNat), { s with
      sp := s.sp + 1
      history := s.history ++
        [{ kind := .stackRead, addr := stackAddr (s.sp + 1), value := some (Memory.get s.ram (0x100 + (s.sp + 1).toNat)),
           call := none }] }) := by
  rw [pop8, read8_of_readsAt (readsAt_of_ram (s := { s with sp := s.sp + 1 }) (busDecode_stack s.prgSize (s.sp + 1)))]
  simp [readCallAt, busDecode_stack]

end Sys2Proof.Machine
end

