-- ==== Sys2Proof/Laws/Decode.lean ====
section
/-! SUPPORT. The one spec lemma of the opcode table: what the form of an opcode byte builds has that opcode byte and those
operand bytes (rules R90, R92, R96, R112). -/

namespace Sys2Proof

@[simp] theorem lo8_word16 (h l : Byte) : lo8 (word16 h l) = l := by
  refine BitVec.eq_of_getLsbD_eq (fun i hi => ?_)
  simp only [lo8, word16, BitVec.getLsbD_setWidth, BitVec.getLsbD_append, hi]
  simp

@[simp] theorem hi8_word16 (h l : Byte) : hi8 (word16 h l) = h := by
  refine BitVec.eq_of_getLsbD_eq (fun i hi => ?_)
  simp only [hi8, word16, BitVec.getLsbD_setWidth, BitVec.getLsbD_ushiftRight, BitVec.getLsbD_append, hi]
  simp

@[simp] theorem word16_hi8_lo8 (a : Addr) : word16 (hi8 a) (lo8 a) = a := by
  refine BitVec.eq_of_getLsbD_eq (fun i hi => ?_)
  simp only [hi8, lo8, word16, BitVec.getLsbD_setWidth, BitVec.getLsbD_ushiftRight, BitVec.getLsbD_append]
  by_cases h : i < 8
  · simp [h]
  · simp [h, show i - 8 < 8 by omega, show 8 + (i - 8) = i by omega]

/-- A form builds instructions of opcode byte `op`, each with the operand bytes it is given. -/
def FormOk (op : Byte) (f : Form) : Prop :=
  match f with
  | .implied i => i.opcode = op ∧ i.operand.bytes = []
  | .immediate k => ∀ b, (k b).opcode = op ∧ (k b).operand = .immediate b
  | .byte k => ∀ b, (k b).opcode = op ∧ (k b).operand.bytes = [b] ∧ (k b).operand ≠ .immediate b
  | .word k => ∀ a, (k a).opcode = op ∧ (k a).operand.bytes = [lo8 a, hi8 a]

theorem formRow0_ok (lo : Nat) (f : Form) (h : formRow0 lo = some f) : FormOk (BitVec.ofNat 8 (0x00 + lo)) f := by
  unfold formRow0 at h
  split at h <;> cases h <;>
    first
      | exact ⟨rfl, rfl⟩
      | exact fun _ => ⟨rfl, rfl⟩
      | exact fun _ => ⟨rfl, rfl, nofun⟩

theorem formRow1_ok (lo : Nat) (f : Form) (h : formRow1 lo = some f) : FormOk (BitVec.ofNat 8 (0x10 + lo)) f := by
  unfold formRow1 at h
  split at h <;> cases h <;>
    first
      | exact ⟨rfl, rfl⟩
      | exact fun _ => ⟨rfl, rfl⟩
      | exact fun _ => ⟨rfl, rfl, nofun⟩

theorem formRow2_ok (lo : Nat) (f : Form) (h : formRow2 lo = some f) : FormOk (BitVec.ofNat 8 (0x20 + lo)) f := by
  unfold formRow2 at h
  split at h <;> cases h <;>
    first
      | exact ⟨rfl, rfl⟩
      | exact fun _ => ⟨rfl, rfl⟩
      | exact fun _ => ⟨rfl, rfl, nofun⟩

theorem formRow3_ok (lo : Nat) (f : Form) (h : formRow3 lo = some f) : FormOk (BitVec.ofNat 8 (0x30 + lo)) f := by
  unfold formRow3 at h
  split at h <;> cases h <;>
    first
      | exact ⟨rfl, rfl⟩
      | exact fun _ => ⟨rfl, rfl⟩
      | exact fun _ => ⟨rfl, rfl, nofun⟩

theorem formRow4_ok (lo : Nat) (f : Form) (h : formRow4 lo = some f) : FormOk (BitVec.ofNat 8 (0x40 + lo)) f := by
  unfold formRow4 at h
  split at h <;> cases h <;>
    first
      | exact ⟨rfl, rfl⟩
      | exact fun _ => ⟨rfl, rfl⟩
      | exact fun _ => ⟨rfl, rfl, nofun⟩

theorem formRow5_ok (lo : Nat) (f : Form) (h : formRow5 lo = some f) : FormOk (BitVec.ofNat 8 (0x50 + lo)) f := by
  unfold formRow5 at h
  split at h <;> cases h <;>
    first
      | exact ⟨rfl, rfl⟩
      | exact fun _ => ⟨rfl, rfl⟩
      | exact fun _ => ⟨rfl, rfl, nofun⟩

theorem formRow6_ok (lo : Nat) (f : Form) (h : formRow6 lo = some f) : FormOk (BitVec.ofNat 8 (0x60 + lo)) f := by
  unfold formRow6 at h
  split at h <;> cases h <;>
    first
      | exact ⟨rfl, rfl⟩
      | exact fun _ => ⟨rfl, rfl⟩
      | exact fun _ => ⟨rfl, rfl, nofun⟩

theorem formRow7_ok (lo : Nat) (f : Form) (h : formRow7 lo = some f) : FormOk (BitVec.ofNat 8 (0x70 + lo)) f := by
  unfold formRow7 at h
  split at h <;> cases h <;>
    first
      | exact ⟨rfl, rfl⟩
      | exact fun _ => ⟨rfl, rfl⟩
      | exact fun _ => ⟨rfl, rfl, nofun⟩

theorem formRow8_ok (lo : Nat) (f : Form) (h : formRow8 lo = some f) : FormOk (BitVec.ofNat 8 (0x80 + lo)) f := by
  unfold formRow8 at h
  split at h <;> cases h <;>
    first
      | exact ⟨rfl, rfl⟩
      | exact fun _ => ⟨rfl, rfl⟩
      | exact fun _ => ⟨rfl, rfl, nofun⟩

theorem formRow9_ok (lo : Nat) (f : Form) (h : formRow9 lo = some f) : FormOk (BitVec.ofNat 8 (0x90 + lo)) f := by
  unfold formRow9 at h
  split at h <;> cases h <;>
    first
      | exact ⟨rfl, rfl⟩
      | exact fun _ => ⟨rfl, rfl⟩
      | exact fun _ => ⟨rfl, rfl, nofun⟩

theorem formRowA_ok (lo : Nat) (f : Form) (h : formRowA lo = some f) : FormOk (BitVec.ofNat 8 (0xA0 + lo)) f := by
  unfold formRowA at h
  split at h <;> cases h <;>
    first
      | exact ⟨rfl, rfl⟩
      | exact fun _ => ⟨rfl, rfl⟩
      | exact fun _ => ⟨rfl, rfl, nofun⟩

theorem formRowB_ok (lo : Nat) (f : Form) (h : formRowB lo = some f) : FormOk (BitVec.ofNat 8 (0xB0 + lo)) f := by
  unfold formRowB at h
  split at h <;> cases h <;>
    first
      | exact ⟨rfl, rfl⟩
      | exact fun _ => ⟨rfl, rfl⟩
      | exact fun _ => ⟨rfl, rfl, nofun⟩

theorem formRowC_ok (lo : Nat) (f : Form) (h : formRowC lo = some f) : FormOk (BitVec.ofNat 8 (0xC0 + lo)) f := by
  unfold formRowC at h
  split at h <;> cases h <;>
    first
      | exact ⟨rfl, rfl⟩
      | exact fun _ => ⟨rfl, rfl⟩
      | exact fun _ => ⟨rfl, rfl, nofun⟩

theorem formRowD_ok (lo : Nat) (f : Form) (h : formRowD lo = some f) : FormOk (BitVec.ofNat 8 (0xD0 + lo)) f := by
  unfold formRowD at h
  split at h <;> cases h <;>
    first
      | exact ⟨rfl, rfl⟩
      | exact fun _ => ⟨rfl, rfl⟩
      | exact fun _ => ⟨rfl, rfl, nofun⟩

theorem formRowE_ok (lo : Nat) (f : Form) (h : formRowE lo = some f) : FormOk (BitVec.ofNat 8 (0xE0 + lo)) f := by
  unfold formRowE at h
  split at h <;> cases h <;>
    first
      | exact ⟨rfl, rfl⟩
      | exact fun _ => ⟨rfl, rfl⟩
      | exact fun _ => ⟨rfl, rfl, nofun⟩

theorem formRowF_ok (lo : Nat) (f : Form) (h : formRowF lo = some f) : FormOk (BitVec.ofNat 8 (0xF0 + lo)) f := by
  unfold formRowF at h
  split at h <;> cases h <;>
    first
      | exact ⟨rfl, rfl⟩
      | exact fun _ => ⟨rfl, rfl⟩
      | exact fun _ => ⟨rfl, rfl, nofun⟩

theorem form_ok {op : Byte} {f : Form} (h : form op = some f) : FormOk op f := by
  have key : ∀ k, op.toNat / 16 = k → BitVec.ofNat 8 (16 * k + op.toNat % 16) = op := by
    intro k hk; rw [← hk, Nat.div_add_mod, BitVec.ofNat_toNat, BitVec.setWidth_eq]
  unfold form at h
  split at h
  · rename_i hk; exact key 0x0 hk ▸ formRow0_ok _ _ h
  · rename_i hk; exact key 0x1 hk ▸ formRow1_ok _ _ h
  · rename_i hk; exact key 0x2 hk ▸ formRow2_ok _ _ h
  · rename_i hk; exact key 0x3 hk ▸ formRow3_ok _ _ h
  · rename_i hk; exact key 0x4 hk ▸ formRow4_ok _ _ h
  · rename_i hk; exact key 0x5 hk ▸ formRow5_ok _ _ h
  · rename_i hk; exact key 0x6 hk ▸ formRow6_ok _ _ h
  · rename_i hk; exact key 0x7 hk ▸ formRow7_ok _ _ h
  · rename_i hk; exact key 0x8 hk ▸ formRow8_ok _ _ h
  · rename_i hk; exact key 0x9 hk ▸ formRow9_ok _ _ h
  · rename_i hk; exact key 0xA hk ▸ formRowA_ok _ _ h
  · rename_i hk; exact key 0xB hk ▸ formRowB_ok _ _ h
  · rename_i hk; exact key 0xC hk ▸ formRowC_ok _ _ h
  · rename_i hk; exact key 0xD hk ▸ formRowD_ok _ _ h
  · rename_i hk; exact key 0xE hk ▸ formRowE_ok _ _ h
  · rename_i hk; exact key 0xF hk ▸ formRowF_ok _ _ h
  · cases h

theorem form_isSome : ∀ op : Byte, (form op).isSome = true := by decide

end Sys2Proof
end

