-- ==== Sys2Proof/Laws/Dispatch.lean ====
section
/-! SUPPORT. `exec` by mnemonic: what every opcode byte of one mnemonic does is one operation on its opcode byte and operand
(rule R111). Proofs about a mnemonic rewrite with `exec_eq` and never split the 256 constructors again. -/

namespace Sys2Proof.Machine

/-- A branch of the table, on its offset operand. -/
def branchOn (o : Operand) (cond : Bool) (s : State) : Result :=
  match o with
  | .relative r => branch cond r s
  | _ => .next s

/-- The operation of a mnemonic on an opcode byte and an operand. The operand forms a mnemonic does not have are given any
value; `exec_eq` says that none occurs. -/
def execAs (m : Mnemonic) (op : Byte) (o : Operand) (s : State) : Result :=
  match m with
  | .BRK => execBrk s
  | .ORA => readInstr op o oraEffect s
  | .KIL => halt .kil s
  | .SLO => modifyInstr op o sloValue sloEffect s
  | .NOP => if o = .implied then impliedInstr nopEffect s else readInstr op o nopReadEffect s
  | .ASL => if o = .accumulator then impliedInstr aslAEffect s else modifyInstr op o aslValue aslEffect s
  | .PHP => execPhp s
  | .ANC => readInstr op o ancEffect s
  | .BPL => branchOn o (!s.flag .N) s
  | .CLC => impliedInstr clcEffect s
  | .JSR => match o with | .target a => execJsr a s | _ => .next s
  | .AND => readInstr op o andEffect s
  | .RLA => modifyInstr op o rlaValue rlaEffect s
  | .BIT => readInstr op o bitEffect s
  | .ROL => if o = .accumulator then impliedInstr rolAEffect s else modifyInstr op o rolValue rolEffect s
  | .PLP => execPlp s
  | .BMI => branchOn o (s.flag .N) s
  | .SEC => impliedInstr secEffect s
  | .RTI => execRti s
  | .EOR => readInstr op o eorEffect s
  | .SRE => modifyInstr op o sreValue sreEffect s
  | .LSR => if o = .accumulator then impliedInstr lsrAEffect s else modifyInstr op o lsrValue lsrEffect s
  | .PHA => execPha s
  | .ALR => readInstr op o alrEffect s
  | .JMP => match o with | .target a => execJmpAbs a s | .indirectTarget a => execJmpInd a s | _ => .next s
  | .BVC => branchOn o (!s.flag .V) s
  | .CLI => impliedInstr cliEffect s
  | .RTS => execRts s
  | .ADC => readInstr op o adcEffect s
  | .RRA => modifyInstr op o rraValue rraEffect s
  | .ROR => if o = .accumulator then impliedInstr rorAEffect s else modifyInstr op o rorValue rorEffect s
  | .PLA => execPla s
  | .ARR => readInstr op o arrEffect s
  | .BVS => branchOn o (s.flag .V) s
  | .SEI => impliedInstr seiEffect s
  | .STA => storeInstr op o staValue s
  | .SAX => storeInstr op o saxValue s
  | .STY => storeInstr op o styValue s
  | .STX => storeInstr op o stxValue s
  | .DEY => impliedInstr deyEffect s
  | .TXA => impliedInstr txaEffect s
  | .XAA => ifAdmitted op (readInstr op o xaaEffect s) s
  | .BCC => branchOn o (!s.flag .C) s
  | .SHA => ifAdmitted op (storeHigh op o shaValue s) s
  | .TYA => impliedInstr tyaEffect s
  | .TXS => impliedInstr txsEffect s
  | .TAS => ifAdmitted op (storeHigh op o tasValue (tasEffect s)) s
  | .SHY => ifAdmitted op (storeHigh op o shyValue s) s
  | .SHX => ifAdmitted op (storeHigh op o shxValue s) s
  | .LDY => readInstr op o ldyEffect s
  | .LDA => readInstr op o ldaEffect s
  | .LDX => readInstr op o ldxEffect s
  | .LAX => readInstr op o laxEffect s
  | .TAY => impliedInstr tayEffect s
  | .TAX => impliedInstr taxEffect s
  | .LXA => ifAdmitted op (readInstr op o lxaEffect s) s
  | .BCS => branchOn o (s.flag .C) s
  | .CLV => impliedInstr clvEffect s
  | .TSX => impliedInstr tsxEffect s
  | .LAS => readInstr op o lasEffect s
  | .CPY => readInstr op o cpyEffect s
  | .CMP => readInstr op o cmpEffect s
  | .DCP => modifyInstr op o dcpValue dcpEffect s
  | .DEC => modifyInstr op o decValue decEffect s
  | .INY => impliedInstr inyEffect s
  | .DEX => impliedInstr dexEffect s
  | .AXS => readInstr op o axsEffect s
  | .BNE => branchOn o (!s.flag .Z) s
  | .CLD => impliedInstr cldEffect s
  | .CPX => readInstr op o cpxEffect s
  | .SBC => readInstr op o sbcEffect s
  | .ISB => modifyInstr op o isbValue isbEffect s
  | .INC => modifyInstr op o incValue incEffect s
  | .INX => impliedInstr inxEffect s
  | .BEQ => branchOn o (s.flag .Z) s
  | .SED => impliedInstr sedEffect s

theorem exec_eq (i : Instr) (s : State) : exec i s = execAs i.mnemonic i.opcode i.operand s := by
  cases i <;> rfl

/-- The mnemonics that use an effective address have an operand with an addressing mode, in every form but the accumulator
and implied ones (rule R111). -/
theorem operand_mode_of_class (i : Instr)
    (h : isReading i.mnemonic ∨ isStoring i.mnemonic ∨ isModifying i.mnemonic)
    (ha : i.operand ≠ .accumulator) (hi : i.operand ≠ .implied) : i.operand.mode ≠ .noneAddressing := by
  revert h ha hi
  cases i <;>
    simp [isReading, isStoring, isModifying, Instr.mnemonic, Instr.operand, Instr.row, Operand.mode]

end Sys2Proof.Machine
end

