-- ==== Sys2Proof/Laws/Encodings.lean ====
section
/-! SUPPORT. What proves that a mnemonic has the encodings its rule lists: a test over the 256 opcode bytes. -/

namespace Sys2Proof.Machine

/-- The mnemonic and mode of the instructions of an opcode byte. -/
def signature (op : Byte) : Option (Mnemonic × AddrMode) :=
  match decode [op, 0x00, 0x00] with
  | .instr i _ => some (i.mnemonic, i.operand.mode)
  | .rejected _ => none

/-- The signature of an instruction's opcode byte is the instruction's. -/
theorem signature_opcode (i : Instr) : signature i.opcode = some (i.mnemonic, i.operand.mode) := by
  cases i <;> (simp only [Instr.opcode, Instr.mnemonic, Instr.operand, Instr.row, Operand.mode]; rfl)

/-- `EncodedAs` as a test over the opcode bytes, row by row of the map. -/
def encodedAsTest (m : Mnemonic) (rows : List (Byte × AddrMode)) : Bool :=
  (List.range 16).all fun h => (List.range 16).all fun l =>
    match signature (BitVec.ofNat 8 (16 * h + l)) with
    | some (m', mode) => decide (m' = m) == decide ((BitVec.ofNat 8 (16 * h + l), mode) ∈ rows)
    | none => true

theorem encodedAs_of_test {m : Mnemonic} {rows : List (Byte × AddrMode)} (h : encodedAsTest m rows = true) :
    EncodedAs m rows := by
  intro i
  have h := List.all_eq_true.mp h (i.opcode.toNat / 16) (List.mem_range.mpr (by have := i.opcode.isLt; omega))
  have h := List.all_eq_true.mp h (i.opcode.toNat % 16) (List.mem_range.mpr (by omega))
  rw [Nat.div_add_mod] at h
  simpa [signature_opcode] using h

end Sys2Proof.Machine
end

