-- ==== Sys2Proof/Laws/Flags.lean ====
section
/-! SUPPORT. What reading a flag finds after a flag write or `setZN`, and the status byte as pushed and pulled. -/

namespace Sys2Proof.Machine

theorem getLsbD_withFlag (f g : Flag) (v : Bool) (p : Byte) :
    (withFlag f v p).getLsbD g.bit = if f = g then v else p.getLsbD g.bit := by
  cases f <;> cases g <;> cases v <;> simp [withFlag, Flag.mask, Flag.bit]

@[simp] theorem getLsbD_withZN (g : Flag) (v p : Byte) :
    (withZN v p).getLsbD g.bit =
      if g = .N then v.getLsbD 7 else if g = .Z then v == 0x00 else p.getLsbD g.bit := by
  cases g <;> simp [withZN, getLsbD_withFlag]

@[simp] theorem State.flag_setFlag (s : State) (f g : Flag) (v : Bool) :
    (s.setFlag f v).flag g = if f = g then v else s.flag g := getLsbD_withFlag f g v s.p

@[simp] theorem State.flag_setZN (s : State) (g : Flag) (v : Byte) :
    (s.setZN v).flag g = if g = .N then v.getLsbD 7 else if g = .Z then v == 0x00 else s.flag g :=
  getLsbD_withZN g v s.p

/-- A status byte is its eight flags. -/
theorem eq_of_flags {p q : Byte} (h : ∀ g : Flag, p.getLsbD g.bit = q.getLsbD g.bit) : p = q := by
  refine BitVec.eq_of_getLsbD_eq (fun i hi => ?_)
  interval_cases i
  exacts [h .C, h .Z, h .I, h .D, h .B, h .B2, h .V, h .N]

/-- Writes of two different flags commute. -/
theorem withFlag_comm {f g : Flag} (h : f ≠ g) (u v : Bool) (p : Byte) :
    withFlag f u (withFlag g v p) = withFlag g v (withFlag f u p) := by
  refine eq_of_flags (fun k => ?_)
  simp only [getLsbD_withFlag]
  by_cases hf : f = k <;> by_cases hg : g = k <;> simp [hf, hg]
  exact absurd (hf.trans hg.symm) h

/-- `setZN` commutes with a write of a flag that is neither Z nor N. -/
theorem withZN_withFlag {f : Flag} (hz : f ≠ .Z) (hn : f ≠ .N) (u : Bool) (v p : Byte) :
    withZN v (withFlag f u p) = withFlag f u (withZN v p) := by
  rw [withZN, withZN, withFlag_comm hz.symm, withFlag_comm hn.symm]

theorem getLsbD_pulledStatus (g : Flag) (v : Byte) :
    (pulledStatus v).getLsbD g.bit = if g = .B then false else if g = .B2 then true else v.getLsbD g.bit := by
  cases g <;> simp [pulledStatus, Flag.bit]

theorem getLsbD_pushedStatus (g : Flag) (p : Byte) :
    (pushedStatus p).getLsbD g.bit = if g = .B ∨ g = .B2 then true else p.getLsbD g.bit := by
  cases g <;> simp [pushedStatus, Flag.bit]

end Sys2Proof.Machine
end

