-- ==== Sys2Proof/Laws/Operands.lean ====
section
/-! SUPPORT. What an instruction that reads, stores to or modifies its operand does: the result where each access answers, and
what a next state tells (rule R111). Later proofs cite these and never unfold the three operations. -/

namespace Sys2Proof.Machine

/-! ### Reading the operand -/

/-- The state after an operand's byte has been read. -/
def afterOperand (o : Operand) (s : State) (m : Byte) (q : List PpuAnswer) : State :=
  match o with
  | .immediate _ => s
  | _ => (s.afterPointers o).afterRead (effectiveAddr o s) m q

theorem readOperand_of_reads {o : Operand} (hm : o.mode ≠ .noneAddressing) {s : State} {m : Byte} {q : List PpuAnswer}
    (h : OperandReads o s m q) : readOperand o s = .ok (m, afterOperand o s m q) := by
  by_cases hi : ∃ b, o = .immediate b
  · obtain ⟨b, rfl⟩ := hi
    obtain ⟨rfl, rfl⟩ := h
    rfl
  · have hr : ReadsAt (s.afterPointers o) (effectiveAddr o s) m q := by cases o <;> first | exact h | exact absurd ⟨_, rfl⟩ hi
    have h1 : readOperand o s = (do let (ea, s) ← resolve o s; read8 .dataRead ea s) := by
      cases o <;> first | rfl | exact absurd ⟨_, rfl⟩ hi
    have h2 : afterOperand o s m q = (s.afterPointers o).afterRead (effectiveAddr o s) m q := by
      cases o <;> first | rfl | exact absurd ⟨_, rfl⟩ hi
    rw [h1, h2, resolve_eq hm]
    simp only [bind, Except.bind, read8_of_readsAt hr]
    rfl

theorem readOperand_of_stops {o : Operand} (hm : o.mode ≠ .noneAddressing) {s : State} {k : FatalKind}
    (h : OperandStops o s k) : ∃ hist, readOperand o s = .error ⟨k, effectiveAddr o s, some .dataRead, hist⟩ := by
  by_cases hi : ∃ b, o = .immediate b
  · obtain ⟨b, rfl⟩ := hi; exact h.elim
  · have hr : ReadStops (s.afterPointers o) (effectiveAddr o s) k := by cases o <;> first | exact h | exact absurd ⟨_, rfl⟩ hi
    have h1 : readOperand o s = (do let (ea, s) ← resolve o s; read8 .dataRead ea s) := by
      cases o <;> first | rfl | exact absurd ⟨_, rfl⟩ hi
    obtain ⟨hist, he⟩ := read8_of_readStops (k := .dataRead) hr
    exact ⟨hist, by rw [h1, resolve_eq hm]; simp only [bind, Except.bind, he]⟩

/-- The read of an operand either answers or is fatal. -/
theorem readOperand_cases {o : Operand} (hm : o.mode ≠ .noneAddressing) (s : State) :
    (∃ m q, OperandReads o s m q ∧ readOperand o s = .ok (m, afterOperand o s m q)) ∨
    (∃ f, readOperand o s = .error f ∧ OperandStops o s f.kind) := by
  by_cases hi : ∃ b, o = .immediate b
  · obtain ⟨b, rfl⟩ := hi; exact .inl ⟨b, s.ppuScript, ⟨rfl, rfl⟩, rfl⟩
  · have h1 : readOperand o s = read8 .dataRead (effectiveAddr o s) (s.afterPointers o) := by
      have : readOperand o s = (do let (ea, s) ← resolve o s; read8 .dataRead ea s) := by
        cases o <;> first | rfl | exact absurd ⟨_, rfl⟩ hi
      rw [this, resolve_eq hm]; rfl
    cases hr : read8 .dataRead (effectiveAddr o s) (s.afterPointers o) with
    | ok p =>
      obtain ⟨m, t⟩ := p
      have hp := (read8_inv hr).1
      have hp' : OperandReads o s m t.ppuScript := by cases o <;> first | exact hp | exact absurd ⟨_, rfl⟩ hi
      exact .inl ⟨m, t.ppuScript, hp', readOperand_of_reads hm hp'⟩
    | error f =>
      have hp := (read8_error hr).1
      have hp' : OperandStops o s f.kind := by cases o <;> first | exact hp | exact absurd ⟨_, rfl⟩ hi
      exact .inr ⟨f, by rw [h1, hr], hp'⟩

theorem readInstr_of_reads {op : Byte} {o : Operand} (hm : o.mode ≠ .noneAddressing) {eff : Byte → State → State}
    {s : State} {m : Byte} {q : List PpuAnswer} (h : OperandReads o s m q) :
    readInstr op o eff s = .next ((eff m (afterOperand o s m q)).advance o.size) := by
  simp only [readInstr, readOperand_of_reads hm h, bind, Except.bind, complete]

theorem readInstr_of_stops {op : Byte} {o : Operand} (hm : o.mode ≠ .noneAddressing) {eff : Byte → State → State}
    {s : State} {k : FatalKind} (h : OperandStops o s k) :
    ∃ hist, readInstr op o eff s =
      raiseFatal (s.pc - 1) (some op) ⟨k, effectiveAddr o s, some .dataRead, hist⟩ := by
  obtain ⟨hist, he⟩ := readOperand_of_stops hm h
  exact ⟨hist, by simp only [readInstr, he, bind, Except.bind, complete]⟩

/-- All a reading instruction that goes on can have done. -/
theorem readInstr_next {op : Byte} {o : Operand} (hm : o.mode ≠ .noneAddressing) {eff : Byte → State → State}
    {s t : State} (h : readInstr op o eff s = .next t) :
    ∃ m q, OperandReads o s m q ∧ t = (eff m (afterOperand o s m q)).advance o.size := by
  rcases readOperand_cases hm s with ⟨m, q, hr, _⟩ | ⟨f, he, _⟩
  · rw [readInstr_of_reads hm hr] at h; injection h with h; exact ⟨m, q, hr, h.symm⟩
  · simp [readInstr, he, bind, Except.bind, complete, raiseFatal] at h

/-! ### Storing -/

theorem storeInstr_eq {op : Byte} {o : Operand} (hm : o.mode ≠ .noneAddressing) {val : State → Byte} {s : State} :
    storeInstr op o val s = complete op s (do
      let s' ← write8 .dataWrite (effectiveAddr o s) (val (s.afterPointers o)) (s.afterPointers o)
      .ok (s'.advance o.size)) := by
  simp only [storeInstr, resolve_eq hm, bind, Except.bind]

/-- All a storing instruction that goes on can have done. -/
theorem storeInstr_next {op : Byte} {o : Operand} (hm : o.mode ≠ .noneAddressing) {val : State → Byte} {s t : State}
    (h : storeInstr op o val s = .next t) :
    ∃ u, write8 .dataWrite (effectiveAddr o s) (val (s.afterPointers o)) (s.afterPointers o) = .ok u ∧
      t = u.advance o.size := by
  rw [storeInstr_eq hm] at h
  cases hw : write8 .dataWrite (effectiveAddr o s) (val (s.afterPointers o)) (s.afterPointers o) with
  | ok u => simp only [hw, bind, Except.bind, complete] at h; injection h with h; exact ⟨u, rfl, h.symm⟩
  | error f => simp [hw, bind, Except.bind, complete, raiseFatal] at h

/-! ### Modifying -/

theorem modifyInstr_eq {op : Byte} {o : Operand} (hm : o.mode ≠ .noneAddressing) {val : Byte → State → Byte}
    {eff : Byte → State → State} {s : State} :
    modifyInstr op o val eff s = complete op s (do
      let (m, s1) ← read8 .dataRead (effectiveAddr o s) (s.afterPointers o)
      let s2 ← write8 .dataWrite (effectiveAddr o s) (val m s1) s1
      .ok ((eff m s2).advance o.size)) := by
  simp only [modifyInstr, resolve_eq hm, bind, Except.bind]

/-- All a read-modify-write instruction that goes on can have done. -/
theorem modifyInstr_next {op : Byte} {o : Operand} (hm : o.mode ≠ .noneAddressing) {val : Byte → State → Byte}
    {eff : Byte → State → State} {s t : State} (h : modifyInstr op o val eff s = .next t) :
    ∃ m s1 s2, read8 .dataRead (effectiveAddr o s) (s.afterPointers o) = .ok (m, s1) ∧
      write8 .dataWrite (effectiveAddr o s) (val m s1) s1 = .ok s2 ∧ t = (eff m s2).advance o.size := by
  rw [modifyInstr_eq hm] at h
  cases hr : read8 .dataRead (effectiveAddr o s) (s.afterPointers o) with
  | error f => simp [hr, bind, Except.bind, complete, raiseFatal] at h
  | ok p =>
    obtain ⟨m, s1⟩ := p
    cases hw : write8 .dataWrite (effectiveAddr o s) (val m s1) s1 with
    | error f => simp [hr, hw, bind, Except.bind, complete, raiseFatal] at h
    | ok s2 =>
      simp only [hr, hw, bind, Except.bind, complete] at h
      injection h with h
      exact ⟨m, s1, s2, rfl, hw, h.symm⟩

/-! ### The high stores -/

theorem storeHigh_eq {op : Byte} {o : Operand} (hm : o.mode ≠ .noneAddressing) {val : State → Byte} {s : State} :
    storeHigh op o val s = complete op s (do
      let v := val (s.afterPointers o) &&& (hi8 (highBase o s) + 1)
      let s' ← write8 .dataWrite (highTarget (highBase o s) (effectiveAddr o s) v) v (s.afterPointers o)
      .ok (s'.advance o.size)) := by
  have : indexOf o (s.afterPointers o) = indexOf o s := by cases o <;> rfl
  simp only [storeHigh, resolveBase_eq hm, bind, Except.bind, this, highBase, BitVec.sub_add_cancel]

/-- All a high store that goes on can have done. -/
theorem storeHigh_next {op : Byte} {o : Operand} (hm : o.mode ≠ .noneAddressing) {val : State → Byte} {s t : State}
    (h : storeHigh op o val s = .next t) :
    ∃ v u, v = val (s.afterPointers o) &&& (hi8 (highBase o s) + 1) ∧
      write8 .dataWrite (highTarget (highBase o s) (effectiveAddr o s) v) v (s.afterPointers o) = .ok u ∧
      t = u.advance o.size := by
  rw [storeHigh_eq hm] at h
  simp only [bind, Except.bind] at h
  split at h
  · simp [complete, raiseFatal] at h
  · rename_i u hw
    simp only [complete] at h; injection h with h
    exact ⟨_, u, rfl, hw, h.symm⟩

/-! ### The stack -/

theorem push16_eq (v : Addr) (s : State) :
    push16 v s = .ok { s with
      ram := Memory.set (Memory.set s.ram (0x100 + s.sp.toNat) (hi8 v)) (0x100 + (s.sp - 1).toNat) (lo8 v)
      sp := s.sp - 2
      history := s.history ++
        [{ kind := .stackWrite, addr := stackAddr s.sp, value := some (hi8 v), call := none },
         { kind := .stackWrite, addr := stackAddr (s.sp - 1), value := some (lo8 v), call := none }] } := by
  have h2 : s.sp - 1 - 1 = s.sp - 2 := by bv_omega
  simp only [push16, push8_eq, bind, Except.bind, h2, List.append_assoc, List.cons_append, List.nil_append]

theorem pop16_eq (s : State) :
    pop16 s = .ok (word16 (Memory.get s.ram (0x100 + (s.sp + 2).toNat)) (Memory.get s.ram (0x100 + (s.sp + 1).toNat)),
      { s with
        sp := s.sp + 2
        history := s.history ++
          [{ kind := .stackRead, addr := stackAddr (s.sp + 1), value := some (Memory.get s.ram (0x100 + (s.sp + 1).toNat)),
             call := none },
           { kind := .stackRead, addr := stackAddr (s.sp + 2), value := some (Memory.get s.ram (0x100 + (s.sp + 2).toNat)),
             call := none }] }) := by
  have h2 : s.sp + 1 + 1 = s.sp + 2 := by bv_omega
  simp only [pop16, pop8_eq, bind, Except.bind, h2, List.append_assoc, List.cons_append, List.nil_append]

end Sys2Proof.Machine
end

