-- ==== Sys2Proof/Laws/PerInstr.lean ====
section
/-! SUPPORT. The per-instruction family Encoding: what every instruction's encoding is in length (rules R90, R91), one lemma
per constructor. -/

namespace Sys2Proof.Laws.Encoding

/-- An encoding has the instruction's length, which is 1 to 3 bytes, and its opcode byte is in the table. -/
def Statement (i : Instr) : Prop :=
  (encode i).length = i.length ∧ (Nat.ble 1 i.length = true ∧ Nat.ble i.length 3 = true) ∧ (form i.opcode).isSome = true

theorem oraIndX (z : Byte) : Statement (.oraIndX z) := ⟨rfl, ⟨rfl, rfl⟩, (rfl : (form 0x01).isSome = true)⟩
theorem sloIndX (z : Byte) : Statement (.sloIndX z) := ⟨rfl, ⟨rfl, rfl⟩, (rfl : (form 0x03).isSome = true)⟩
theorem nop04Zp (z : Byte) : Statement (.nop04Zp z) := ⟨rfl, ⟨rfl, rfl⟩, (rfl : (form 0x04).isSome = true)⟩
theorem oraZp (z : Byte) : Statement (.oraZp z) := ⟨rfl, ⟨rfl, rfl⟩, (rfl : (form 0x05).isSome = true)⟩
theorem aslZp (z : Byte) : Statement (.aslZp z) := ⟨rfl, ⟨rfl, rfl⟩, (rfl : (form 0x06).isSome = true)⟩
theorem sloZp (z : Byte) : Statement (.sloZp z) := ⟨rfl, ⟨rfl, rfl⟩, (rfl : (form 0x07).isSome = true)⟩
theorem oraImm (b : Byte) : Statement (.oraImm b) := ⟨rfl, ⟨rfl, rfl⟩, (rfl : (form 0x09).isSome = true)⟩
theorem anc0BImm (b : Byte) : Statement (.anc0BImm b) := ⟨rfl, ⟨rfl, rfl⟩, (rfl : (form 0x0B).isSome = true)⟩
theorem nop0CAbs (a : Addr) : Statement (.nop0CAbs a) := ⟨rfl, ⟨rfl, rfl⟩, (rfl : (form 0x0C).isSome = true)⟩
theorem oraAbs (a : Addr) : Statement (.oraAbs a) := ⟨rfl, ⟨rfl, rfl⟩, (rfl : (form 0x0D).isSome = true)⟩
theorem aslAbs (a : Addr) : Statement (.aslAbs a) := ⟨rfl, ⟨rfl, rfl⟩, (rfl : (form 0x0E).isSome = true)⟩
theorem sloAbs (a : Addr) : Statement (.sloAbs a) := ⟨rfl, ⟨rfl, rfl⟩, (rfl : (form 0x0F).isSome = true)⟩
theorem bpl (r : Byte) : Statement (.bpl r) := ⟨rfl, ⟨rfl, rfl⟩, (rfl : (form 0x10).isSome = true)⟩
theorem oraIndY (z : Byte) : Statement (.oraIndY z) := ⟨rfl, ⟨rfl, rfl⟩, (rfl : (form 0x11).isSome = true)⟩
theorem sloIndY (z : Byte) : Statement (.sloIndY z) := ⟨rfl, ⟨rfl, rfl⟩, (rfl : (form 0x13).isSome = true)⟩
theorem nop14ZpX (z : Byte) : Statement (.nop14ZpX z) := ⟨rfl, ⟨rfl, rfl⟩, (rfl : (form 0x14).isSome = true)⟩
theorem oraZpX (z : Byte) : Statement (.oraZpX z) := ⟨rfl, ⟨rfl, rfl⟩, (rfl : (form 0x15).isSome = true)⟩
theorem aslZpX (z : Byte) : Statement (.aslZpX z) := ⟨rfl, ⟨rfl, rfl⟩, (rfl : (form 0x16).isSome = true)⟩
theorem sloZpX (z : Byte) : Statement (.sloZpX z) := ⟨rfl, ⟨rfl, rfl⟩, (rfl : (form 0x17).isSome = true)⟩
theorem oraAbsY (a : Addr) : Statement (.oraAbsY a) := ⟨rfl, ⟨rfl, rfl⟩, (rfl : (form 0x19).isSome = true)⟩
theorem sloAbsY (a : Addr) : Statement (.sloAbsY a) := ⟨rfl, ⟨rfl, rfl⟩, (rfl : (form 0x1B).isSome = true)⟩
theorem nop1CAbsX (a : Addr) : Statement (.nop1CAbsX a) := ⟨rfl, ⟨rfl, rfl⟩, (rfl : (form 0x1C).isSome = true)⟩
theorem oraAbsX (a : Addr) : Statement (.oraAbsX a) := ⟨rfl, ⟨rfl, rfl⟩, (rfl : (form 0x1D).isSome = true)⟩
theorem aslAbsX (a : Addr) : Statement (.aslAbsX a) := ⟨rfl, ⟨rfl, rfl⟩, (rfl : (form 0x1E).isSome = true)⟩
theorem sloAbsX (a : Addr) : Statement (.sloAbsX a) := ⟨rfl, ⟨rfl, rfl⟩, (rfl : (form 0x1F).isSome = true)⟩
theorem jsr (a : Addr) : Statement (.jsr a) := ⟨rfl, ⟨rfl, rfl⟩, (rfl : (form 0x20).isSome = true)⟩
theorem andIndX (z : Byte) : Statement (.andIndX z) := ⟨rfl, ⟨rfl, rfl⟩, (rfl : (form 0x21).isSome = true)⟩
theorem rlaIndX (z : Byte) : Statement (.rlaIndX z) := ⟨rfl, ⟨rfl, rfl⟩, (rfl : (form 0x23).isSome = true)⟩
theorem bitZp (z : Byte) : Statement (.bitZp z) := ⟨rfl, ⟨rfl, rfl⟩, (rfl : (form 0x24).isSome = true)⟩
theorem andZp (z : Byte) : Statement (.andZp z) := ⟨rfl, ⟨rfl, rfl⟩, (rfl : (form 0x25).isSome = true)⟩
theorem rolZp (z : Byte) : Statement (.rolZp z) := ⟨rfl, ⟨rfl, rfl⟩, (rfl : (form 0x26).isSome = true)⟩
theorem rlaZp (z : Byte) : Statement (.rlaZp z) := ⟨rfl, ⟨rfl, rfl⟩, (rfl : (form 0x27).isSome = true)⟩
theorem andImm (b : Byte) : Statement (.andImm b) := ⟨rfl, ⟨rfl, rfl⟩, (rfl : (form 0x29).isSome = true)⟩
theorem anc2BImm (b : Byte) : Statement (.anc2BImm b) := ⟨rfl, ⟨rfl, rfl⟩, (rfl : (form 0x2B).isSome = true)⟩
theorem bitAbs (a : Addr) : Statement (.bitAbs a) := ⟨rfl, ⟨rfl, rfl⟩, (rfl : (form 0x2C).isSome = true)⟩
theorem andAbs (a : Addr) : Statement (.andAbs a) := ⟨rfl, ⟨rfl, rfl⟩, (rfl : (form 0x2D).isSome = true)⟩
theorem rolAbs (a : Addr) : Statement (.rolAbs a) := ⟨rfl, ⟨rfl, rfl⟩, (rfl : (form 0x2E).isSome = true)⟩
theorem rlaAbs (a : Addr) : Statement (.rlaAbs a) := ⟨rfl, ⟨rfl, rfl⟩, (rfl : (form 0x2F).isSome = true)⟩
theorem bmi (r : Byte) : Statement (.bmi r) := ⟨rfl, ⟨rfl, rfl⟩, (rfl : (form 0x30).isSome = true)⟩
theorem andIndY (z : Byte) : Statement (.andIndY z) := ⟨rfl, ⟨rfl, rfl⟩, (rfl : (form 0x31).isSome = true)⟩
theorem rlaIndY (z : Byte) : Statement (.rlaIndY z) := ⟨rfl, ⟨rfl, rfl⟩, (rfl : (form 0x33).isSome = true)⟩
theorem nop34ZpX (z : Byte) : Statement (.nop34ZpX z) := ⟨rfl, ⟨rfl, rfl⟩, (rfl : (form 0x34).isSome = true)⟩
theorem andZpX (z : Byte) : Statement (.andZpX z) := ⟨rfl, ⟨rfl, rfl⟩, (rfl : (form 0x35).isSome = true)⟩
theorem rolZpX (z : Byte) : Statement (.rolZpX z) := ⟨rfl, ⟨rfl, rfl⟩, (rfl : (form 0x36).isSome = true)⟩
theorem rlaZpX (z : Byte) : Statement (.rlaZpX z) := ⟨rfl, ⟨rfl, rfl⟩, (rfl : (form 0x37).isSome = true)⟩
theorem andAbsY (a : Addr) : Statement (.andAbsY a) := ⟨rfl, ⟨rfl, rfl⟩, (rfl : (form 0x39).isSome = true)⟩
theorem rlaAbsY (a : Addr) : Statement (.rlaAbsY a) := ⟨rfl, ⟨rfl, rfl⟩, (rfl : (form 0x3B).isSome = true)⟩
theorem nop3CAbsX (a : Addr) : Statement (.nop3CAbsX a) := ⟨rfl, ⟨rfl, rfl⟩, (rfl : (form 0x3C).isSome = true)⟩
theorem andAbsX (a : Addr) : Statement (.andAbsX a) := ⟨rfl, ⟨rfl, rfl⟩, (rfl : (form 0x3D).isSome = true)⟩
theorem rolAbsX (a : Addr) : Statement (.rolAbsX a) := ⟨rfl, ⟨rfl, rfl⟩, (rfl : (form 0x3E).isSome = true)⟩
theorem rlaAbsX (a : Addr) : Statement (.rlaAbsX a) := ⟨rfl, ⟨rfl, rfl⟩, (rfl : (form 0x3F).isSome = true)⟩
theorem eorIndX (z : Byte) : Statement (.eorIndX z) := ⟨rfl, ⟨rfl, rfl⟩, (rfl : (form 0x41).isSome = true)⟩
theorem sreIndX (z : Byte) : Statement (.sreIndX z) := ⟨rfl, ⟨rfl, rfl⟩, (rfl : (form 0x43).isSome = true)⟩
theorem nop44Zp (z : Byte) : Statement (.nop44Zp z) := ⟨rfl, ⟨rfl, rfl⟩, (rfl : (form 0x44).isSome = true)⟩
theorem eorZp (z : Byte) : Statement (.eorZp z) := ⟨rfl, ⟨rfl, rfl⟩, (rfl : (form 0x45).isSome = true)⟩
theorem lsrZp (z : Byte) : Statement (.lsrZp z) := ⟨rfl, ⟨rfl, rfl⟩, (rfl : (form 0x46).isSome = true)⟩
theorem sreZp (z : Byte) : Statement (.sreZp z) := ⟨rfl, ⟨rfl, rfl⟩, (rfl : (form 0x47).isSome = true)⟩
theorem eorImm (b : Byte) : Statement (.eorImm b) := ⟨rfl, ⟨rfl, rfl⟩, (rfl : (form 0x49).isSome = true)⟩
theorem alrImm (b : Byte) : Statement (.alrImm b) := ⟨rfl, ⟨rfl, rfl⟩, (rfl : (form 0x4B).isSome = true)⟩
theorem jmpAbs (a : Addr) : Statement (.jmpAbs a) := ⟨rfl, ⟨rfl, rfl⟩, (rfl : (form 0x4C).isSome = true)⟩
theorem eorAbs (a : Addr) : Statement (.eorAbs a) := ⟨rfl, ⟨rfl, rfl⟩, (rfl : (form 0x4D).isSome = true)⟩
theorem lsrAbs (a : Addr) : Statement (.lsrAbs a) := ⟨rfl, ⟨rfl, rfl⟩, (rfl : (form 0x4E).isSome = true)⟩
theorem sreAbs (a : Addr) : Statement (.sreAbs a) := ⟨rfl, ⟨rfl, rfl⟩, (rfl : (form 0x4F).isSome = true)⟩
theorem bvc (r : Byte) : Statement (.bvc r) := ⟨rfl, ⟨rfl, rfl⟩, (rfl : (form 0x50).isSome = true)⟩
theorem eorIndY (z : Byte) : Statement (.eorIndY z) := ⟨rfl, ⟨rfl, rfl⟩, (rfl : (form 0x51).isSome = true)⟩
theorem sreIndY (z : Byte) : Statement (.sreIndY z) := ⟨rfl, ⟨rfl, rfl⟩, (rfl : (form 0x53).isSome = true)⟩
theorem nop54ZpX (z : Byte) : Statement (.nop54ZpX z) := ⟨rfl, ⟨rfl, rfl⟩, (rfl : (form 0x54).isSome = true)⟩
theorem eorZpX (z : Byte) : Statement (.eorZpX z) := ⟨rfl, ⟨rfl, rfl⟩, (rfl : (form 0x55).isSome = true)⟩
theorem lsrZpX (z : Byte) : Statement (.lsrZpX z) := ⟨rfl, ⟨rfl, rfl⟩, (rfl : (form 0x56).isSome = true)⟩
theorem sreZpX (z : Byte) : Statement (.sreZpX z) := ⟨rfl, ⟨rfl, rfl⟩, (rfl : (form 0x57).isSome = true)⟩
theorem eorAbsY (a : Addr) : Statement (.eorAbsY a) := ⟨rfl, ⟨rfl, rfl⟩, (rfl : (form 0x59).isSome = true)⟩
theorem sreAbsY (a : Addr) : Statement (.sreAbsY a) := ⟨rfl, ⟨rfl, rfl⟩, (rfl : (form 0x5B).isSome = true)⟩
theorem nop5CAbsX (a : Addr) : Statement (.nop5CAbsX a) := ⟨rfl, ⟨rfl, rfl⟩, (rfl : (form 0x5C).isSome = true)⟩
theorem eorAbsX (a : Addr) : Statement (.eorAbsX a) := ⟨rfl, ⟨rfl, rfl⟩, (rfl : (form 0x5D).isSome = true)⟩
theorem lsrAbsX (a : Addr) : Statement (.lsrAbsX a) := ⟨rfl, ⟨rfl, rfl⟩, (rfl : (form 0x5E).isSome = true)⟩
theorem sreAbsX (a : Addr) : Statement (.sreAbsX a) := ⟨rfl, ⟨rfl, rfl⟩, (rfl : (form 0x5F).isSome = true)⟩
theorem adcIndX (z : Byte) : Statement (.adcIndX z) := ⟨rfl, ⟨rfl, rfl⟩, (rfl : (form 0x61).isSome = true)⟩
theorem rraIndX (z : Byte) : Statement (.rraIndX z) := ⟨rfl, ⟨rfl, rfl⟩, (rfl : (form 0x63).isSome = true)⟩
theorem nop64Zp (z : Byte) : Statement (.nop64Zp z) := ⟨rfl, ⟨rfl, rfl⟩, (rfl : (form 0x64).isSome = true)⟩
theorem adcZp (z : Byte) : Statement (.adcZp z) := ⟨rfl, ⟨rfl, rfl⟩, (rfl : (form 0x65).isSome = true)⟩
theorem rorZp (z : Byte) : Statement (.rorZp z) := ⟨rfl, ⟨rfl, rfl⟩, (rfl : (form 0x66).isSome = true)⟩
theorem rraZp (z : Byte) : Statement (.rraZp z) := ⟨rfl, ⟨rfl, rfl⟩, (rfl : (form 0x67).isSome = true)⟩
theorem adcImm (b : Byte) : Statement (.adcImm b) := ⟨rfl, ⟨rfl, rfl⟩, (rfl : (form 0x69).isSome = true)⟩
theorem arrImm (b : Byte) : Statement (.arrImm b) := ⟨rfl, ⟨rfl, rfl⟩, (rfl : (form 0x6B).isSome = true)⟩
theorem jmpInd (a : Addr) : Statement (.jmpInd a) := ⟨rfl, ⟨rfl, rfl⟩, (rfl : (form 0x6C).isSome = true)⟩
theorem adcAbs (a : Addr) : Statement (.adcAbs a) := ⟨rfl, ⟨rfl, rfl⟩, (rfl : (form 0x6D).isSome = true)⟩
theorem rorAbs (a : Addr) : Statement (.rorAbs a) := ⟨rfl, ⟨rfl, rfl⟩, (rfl : (form 0x6E).isSome = true)⟩
theorem rraAbs (a : Addr) : Statement (.rraAbs a) := ⟨rfl, ⟨rfl, rfl⟩, (rfl : (form 0x6F).isSome = true)⟩
theorem bvs (r : Byte) : Statement (.bvs r) := ⟨rfl, ⟨rfl, rfl⟩, (rfl : (form 0x70).isSome = true)⟩
theorem adcIndY (z : Byte) : Statement (.adcIndY z) := ⟨rfl, ⟨rfl, rfl⟩, (rfl : (form 0x71).isSome = true)⟩
theorem rraIndY (z : Byte) : Statement (.rraIndY z) := ⟨rfl, ⟨rfl, rfl⟩, (rfl : (form 0x73).isSome = true)⟩
theorem nop74ZpX (z : Byte) : Statement (.nop74ZpX z) := ⟨rfl, ⟨rfl, rfl⟩, (rfl : (form 0x74).isSome = true)⟩
theorem adcZpX (z : Byte) : Statement (.adcZpX z) := ⟨rfl, ⟨rfl, rfl⟩, (rfl : (form 0x75).isSome = true)⟩
theorem rorZpX (z : Byte) : Statement (.rorZpX z) := ⟨rfl, ⟨rfl, rfl⟩, (rfl : (form 0x76).isSome = true)⟩
theorem rraZpX (z : Byte) : Statement (.rraZpX z) := ⟨rfl, ⟨rfl, rfl⟩, (rfl : (form 0x77).isSome = true)⟩
theorem adcAbsY (a : Addr) : Statement (.adcAbsY a) := ⟨rfl, ⟨rfl, rfl⟩, (rfl : (form 0x79).isSome = true)⟩
theorem rraAbsY (a : Addr) : Statement (.rraAbsY a) := ⟨rfl, ⟨rfl, rfl⟩, (rfl : (form 0x7B).isSome = true)⟩
theorem nop7CAbsX (a : Addr) : Statement (.nop7CAbsX a) := ⟨rfl, ⟨rfl, rfl⟩, (rfl : (form 0x7C).isSome = true)⟩
theorem adcAbsX (a : Addr) : Statement (.adcAbsX a) := ⟨rfl, ⟨rfl, rfl⟩, (rfl : (form 0x7D).isSome = true)⟩
theorem rorAbsX (a : Addr) : Statement (.rorAbsX a) := ⟨rfl, ⟨rfl, rfl⟩, (rfl : (form 0x7E).isSome = true)⟩
theorem rraAbsX (a : Addr) : Statement (.rraAbsX a) := ⟨rfl, ⟨rfl, rfl⟩, (rfl : (form 0x7F).isSome = true)⟩
theorem nop80Imm (b : Byte) : Statement (.nop80Imm b) := ⟨rfl, ⟨rfl, rfl⟩, (rfl : (form 0x80).isSome = true)⟩
theorem staIndX (z : Byte) : Statement (.staIndX z) := ⟨rfl, ⟨rfl, rfl⟩, (rfl : (form 0x81).isSome = true)⟩
theorem nop82Imm (b : Byte) : Statement (.nop82Imm b) := ⟨rfl, ⟨rfl, rfl⟩, (rfl : (form 0x82).isSome = true)⟩
theorem saxIndX (z : Byte) : Statement (.saxIndX z) := ⟨rfl, ⟨rfl, rfl⟩, (rfl : (form 0x83).isSome = true)⟩
theorem styZp (z : Byte) : Statement (.styZp z) := ⟨rfl, ⟨rfl, rfl⟩, (rfl : (form 0x84).isSome = true)⟩
theorem staZp (z : Byte) : Statement (.staZp z) := ⟨rfl, ⟨rfl, rfl⟩, (rfl : (form 0x85).isSome = true)⟩
theorem stxZp (z : Byte) : Statement (.stxZp z) := ⟨rfl, ⟨rfl, rfl⟩, (rfl : (form 0x86).isSome = true)⟩
theorem saxZp (z : Byte) : Statement (.saxZp z) := ⟨rfl, ⟨rfl, rfl⟩, (rfl : (form 0x87).isSome = true)⟩
theorem nop89Imm (b : Byte) : Statement (.nop89Imm b) := ⟨rfl, ⟨rfl, rfl⟩, (rfl : (form 0x89).isSome = true)⟩
theorem xaaImm (b : Byte) : Statement (.xaaImm b) := ⟨rfl, ⟨rfl, rfl⟩, (rfl : (form 0x8B).isSome = true)⟩
theorem styAbs (a : Addr) : Statement (.styAbs a) := ⟨rfl, ⟨rfl, rfl⟩, (rfl : (form 0x8C).isSome = true)⟩
theorem staAbs (a : Addr) : Statement (.staAbs a) := ⟨rfl, ⟨rfl, rfl⟩, (rfl : (form 0x8D).isSome = true)⟩
theorem stxAbs (a : Addr) : Statement (.stxAbs a) := ⟨rfl, ⟨rfl, rfl⟩, (rfl : (form 0x8E).isSome = true)⟩
theorem saxAbs (a : Addr) : Statement (.saxAbs a) := ⟨rfl, ⟨rfl, rfl⟩, (rfl : (form 0x8F).isSome = true)⟩
theorem bcc (r : Byte) : Statement (.bcc r) := ⟨rfl, ⟨rfl, rfl⟩, (rfl : (form 0x90).isSome = true)⟩
theorem staIndY (z : Byte) : Statement (.staIndY z) := ⟨rfl, ⟨rfl, rfl⟩, (rfl : (form 0x91).isSome = true)⟩
theorem shaIndY (z : Byte) : Statement (.shaIndY z) := ⟨rfl, ⟨rfl, rfl⟩, (rfl : (form 0x93).isSome = true)⟩
theorem styZpX (z : Byte) : Statement (.styZpX z) := ⟨rfl, ⟨rfl, rfl⟩, (rfl : (form 0x94).isSome = true)⟩
theorem staZpX (z : Byte) : Statement (.staZpX z) := ⟨rfl, ⟨rfl, rfl⟩, (rfl : (form 0x95).isSome = true)⟩
theorem stxZpY (z : Byte) : Statement (.stxZpY z) := ⟨rfl, ⟨rfl, rfl⟩, (rfl : (form 0x96).isSome = true)⟩
theorem saxZpY (z : Byte) : Statement (.saxZpY z) := ⟨rfl, ⟨rfl, rfl⟩, (rfl : (form 0x97).isSome = true)⟩
theorem staAbsY (a : Addr) : Statement (.staAbsY a) := ⟨rfl, ⟨rfl, rfl⟩, (rfl : (form 0x99).isSome = true)⟩
theorem tasAbsY (a : Addr) : Statement (.tasAbsY a) := ⟨rfl, ⟨rfl, rfl⟩, (rfl : (form 0x9B).isSome = true)⟩
theorem shyAbsX (a : Addr) : Statement (.shyAbsX a) := ⟨rfl, ⟨rfl, rfl⟩, (rfl : (form 0x9C).isSome = true)⟩
theorem staAbsX (a : Addr) : Statement (.staAbsX a) := ⟨rfl, ⟨rfl, rfl⟩, (rfl : (form 0x9D).isSome = true)⟩
theorem shxAbsY (a : Addr) : Statement (.shxAbsY a) := ⟨rfl, ⟨rfl, rfl⟩, (rfl : (form 0x9E).isSome = true)⟩
theorem shaAbsY (a : Addr) : Statement (.shaAbsY a) := ⟨rfl, ⟨rfl, rfl⟩, (rfl : (form 0x9F).isSome = true)⟩
theorem ldyImm (b : Byte) : Statement (.ldyImm b) := ⟨rfl, ⟨rfl, rfl⟩, (rfl : (form 0xA0).isSome = true)⟩
theorem ldaIndX (z : Byte) : Statement (.ldaIndX z) := ⟨rfl, ⟨rfl, rfl⟩, (rfl : (form 0xA1).isSome = true)⟩
theorem ldxImm (b : Byte) : Statement (.ldxImm b) := ⟨rfl, ⟨rfl, rfl⟩, (rfl : (form 0xA2).isSome = true)⟩
theorem laxIndX (z : Byte) : Statement (.laxIndX z) := ⟨rfl, ⟨rfl, rfl⟩, (rfl : (form 0xA3).isSome = true)⟩
theorem ldyZp (z : Byte) : Statement (.ldyZp z) := ⟨rfl, ⟨rfl, rfl⟩, (rfl : (form 0xA4).isSome = true)⟩
theorem ldaZp (z : Byte) : Statement (.ldaZp z) := ⟨rfl, ⟨rfl, rfl⟩, (rfl : (form 0xA5).isSome = true)⟩
theorem ldxZp (z : Byte) : Statement (.ldxZp z) := ⟨rfl, ⟨rfl, rfl⟩, (rfl : (form 0xA6).isSome = true)⟩
theorem laxZp (z : Byte) : Statement (.laxZp z) := ⟨rfl, ⟨rfl, rfl⟩, (rfl : (form 0xA7).isSome = true)⟩
theorem ldaImm (b : Byte) : Statement (.ldaImm b) := ⟨rfl, ⟨rfl, rfl⟩, (rfl : (form 0xA9).isSome = true)⟩
theorem lxaImm (b : Byte) : Statement (.lxaImm b) := ⟨rfl, ⟨rfl, rfl⟩, (rfl : (form 0xAB).isSome = true)⟩
theorem ldyAbs (a : Addr) : Statement (.ldyAbs a) := ⟨rfl, ⟨rfl, rfl⟩, (rfl : (form 0xAC).isSome = true)⟩
theorem ldaAbs (a : Addr) : Statement (.ldaAbs a) := ⟨rfl, ⟨rfl, rfl⟩, (rfl : (form 0xAD).isSome = true)⟩
theorem ldxAbs (a : Addr) : Statement (.ldxAbs a) := ⟨rfl, ⟨rfl, rfl⟩, (rfl : (form 0xAE).isSome = true)⟩
theorem laxAbs (a : Addr) : Statement (.laxAbs a) := ⟨rfl, ⟨rfl, rfl⟩, (rfl : (form 0xAF).isSome = true)⟩
theorem bcs (r : Byte) : Statement (.bcs r) := ⟨rfl, ⟨rfl, rfl⟩, (rfl : (form 0xB0).isSome = true)⟩
theorem ldaIndY (z : Byte) : Statement (.ldaIndY z) := ⟨rfl, ⟨rfl, rfl⟩, (rfl : (form 0xB1).isSome = true)⟩
theorem laxIndY (z : Byte) : Statement (.laxIndY z) := ⟨rfl, ⟨rfl, rfl⟩, (rfl : (form 0xB3).isSome = true)⟩
theorem ldyZpX (z : Byte) : Statement (.ldyZpX z) := ⟨rfl, ⟨rfl, rfl⟩, (rfl : (form 0xB4).isSome = true)⟩
theorem ldaZpX (z : Byte) : Statement (.ldaZpX z) := ⟨rfl, ⟨rfl, rfl⟩, (rfl : (form 0xB5).isSome = true)⟩
theorem ldxZpY (z : Byte) : Statement (.ldxZpY z) := ⟨rfl, ⟨rfl, rfl⟩, (rfl : (form 0xB6).isSome = true)⟩
theorem laxZpY (z : Byte) : Statement (.laxZpY z) := ⟨rfl, ⟨rfl, rfl⟩, (rfl : (form 0xB7).isSome = true)⟩
theorem ldaAbsY (a : Addr) : Statement (.ldaAbsY a) := ⟨rfl, ⟨rfl, rfl⟩, (rfl : (form 0xB9).isSome = true)⟩
theorem lasAbsY (a : Addr) : Statement (.lasAbsY a) := ⟨rfl, ⟨rfl, rfl⟩, (rfl : (form 0xBB).isSome = true)⟩
theorem ldyAbsX (a : Addr) : Statement (.ldyAbsX a) := ⟨rfl, ⟨rfl, rfl⟩, (rfl : (form 0xBC).isSome = true)⟩
theorem ldaAbsX (a : Addr) : Statement (.ldaAbsX a) := ⟨rfl, ⟨rfl, rfl⟩, (rfl : (form 0xBD).isSome = true)⟩
theorem ldxAbsY (a : Addr) : Statement (.ldxAbsY a) := ⟨rfl, ⟨rfl, rfl⟩, (rfl : (form 0xBE).isSome = true)⟩
theorem laxAbsY (a : Addr) : Statement (.laxAbsY a) := ⟨rfl, ⟨rfl, rfl⟩, (rfl : (form 0xBF).isSome = true)⟩
theorem cpyImm (b : Byte) : Statement (.cpyImm b) := ⟨rfl, ⟨rfl, rfl⟩, (rfl : (form 0xC0).isSome = true)⟩
theorem cmpIndX (z : Byte) : Statement (.cmpIndX z) := ⟨rfl, ⟨rfl, rfl⟩, (rfl : (form 0xC1).isSome = true)⟩
theorem nopC2Imm (b : Byte) : Statement (.nopC2Imm b) := ⟨rfl, ⟨rfl, rfl⟩, (rfl : (form 0xC2).isSome = true)⟩
theorem dcpIndX (z : Byte) : Statement (.dcpIndX z) := ⟨rfl, ⟨rfl, rfl⟩, (rfl : (form 0xC3).isSome = true)⟩
theorem cpyZp (z : Byte) : Statement (.cpyZp z) := ⟨rfl, ⟨rfl, rfl⟩, (rfl : (form 0xC4).isSome = true)⟩
theorem cmpZp (z : Byte) : Statement (.cmpZp z) := ⟨rfl, ⟨rfl, rfl⟩, (rfl : (form 0xC5).isSome = true)⟩
theorem decZp (z : Byte) : Statement (.decZp z) := ⟨rfl, ⟨rfl, rfl⟩, (rfl : (form 0xC6).isSome = true)⟩
theorem dcpZp (z : Byte) : Statement (.dcpZp z) := ⟨rfl, ⟨rfl, rfl⟩, (rfl : (form 0xC7).isSome = true)⟩
theorem cmpImm (b : Byte) : Statement (.cmpImm b) := ⟨rfl, ⟨rfl, rfl⟩, (rfl : (form 0xC9).isSome = true)⟩
theorem axsImm (b : Byte) : Statement (.axsImm b) := ⟨rfl, ⟨rfl, rfl⟩, (rfl : (form 0xCB).isSome = true)⟩
theorem cpyAbs (a : Addr) : Statement (.cpyAbs a) := ⟨rfl, ⟨rfl, rfl⟩, (rfl : (form 0xCC).isSome = true)⟩
theorem cmpAbs (a : Addr) : Statement (.cmpAbs a) := ⟨rfl, ⟨rfl, rfl⟩, (rfl : (form 0xCD).isSome = true)⟩
theorem decAbs (a : Addr) : Statement (.decAbs a) := ⟨rfl, ⟨rfl, rfl⟩, (rfl : (form 0xCE).isSome = true)⟩
theorem dcpAbs (a : Addr) : Statement (.dcpAbs a) := ⟨rfl, ⟨rfl, rfl⟩, (rfl : (form 0xCF).isSome = true)⟩
theorem bne (r : Byte) : Statement (.bne r) := ⟨rfl, ⟨rfl, rfl⟩, (rfl : (form 0xD0).isSome = true)⟩
theorem cmpIndY (z : Byte) : Statement (.cmpIndY z) := ⟨rfl, ⟨rfl, rfl⟩, (rfl : (form 0xD1).isSome = true)⟩
theorem dcpIndY (z : Byte) : Statement (.dcpIndY z) := ⟨rfl, ⟨rfl, rfl⟩, (rfl : (form 0xD3).isSome = true)⟩
theorem nopD4ZpX (z : Byte) : Statement (.nopD4ZpX z) := ⟨rfl, ⟨rfl, rfl⟩, (rfl : (form 0xD4).isSome = true)⟩
theorem cmpZpX (z : Byte) : Statement (.cmpZpX z) := ⟨rfl, ⟨rfl, rfl⟩, (rfl : (form 0xD5).isSome = true)⟩
theorem decZpX (z : Byte) : Statement (.decZpX z) := ⟨rfl, ⟨rfl, rfl⟩, (rfl : (form 0xD6).isSome = true)⟩
theorem dcpZpX (z : Byte) : Statement (.dcpZpX z) := ⟨rfl, ⟨rfl, rfl⟩, (rfl : (form 0xD7).isSome = true)⟩
theorem cmpAbsY (a : Addr) : Statement (.cmpAbsY a) := ⟨rfl, ⟨rfl, rfl⟩, (rfl : (form 0xD9).isSome = true)⟩
theorem dcpAbsY (a : Addr) : Statement (.dcpAbsY a) := ⟨rfl, ⟨rfl, rfl⟩, (rfl : (form 0xDB).isSome = true)⟩
theorem nopDCAbsX (a : Addr) : Statement (.nopDCAbsX a) := ⟨rfl, ⟨rfl, rfl⟩, (rfl : (form 0xDC).isSome = true)⟩
theorem cmpAbsX (a : Addr) : Statement (.cmpAbsX a) := ⟨rfl, ⟨rfl, rfl⟩, (rfl : (form 0xDD).isSome = true)⟩
theorem decAbsX (a : Addr) : Statement (.decAbsX a) := ⟨rfl, ⟨rfl, rfl⟩, (rfl : (form 0xDE).isSome = true)⟩
theorem dcpAbsX (a : Addr) : Statement (.dcpAbsX a) := ⟨rfl, ⟨rfl, rfl⟩, (rfl : (form 0xDF).isSome = true)⟩
theorem cpxImm (b : Byte) : Statement (.cpxImm b) := ⟨rfl, ⟨rfl, rfl⟩, (rfl : (form 0xE0).isSome = true)⟩
theorem sbcIndX (z : Byte) : Statement (.sbcIndX z) := ⟨rfl, ⟨rfl, rfl⟩, (rfl : (form 0xE1).isSome = true)⟩
theorem nopE2Imm (b : Byte) : Statement (.nopE2Imm b) := ⟨rfl, ⟨rfl, rfl⟩, (rfl : (form 0xE2).isSome = true)⟩
theorem isbIndX (z : Byte) : Statement (.isbIndX z) := ⟨rfl, ⟨rfl, rfl⟩, (rfl : (form 0xE3).isSome = true)⟩
theorem cpxZp (z : Byte) : Statement (.cpxZp z) := ⟨rfl, ⟨rfl, rfl⟩, (rfl : (form 0xE4).isSome = true)⟩
theorem sbcZp (z : Byte) : Statement (.sbcZp z) := ⟨rfl, ⟨rfl, rfl⟩, (rfl : (form 0xE5).isSome = true)⟩
theorem incZp (z : Byte) : Statement (.incZp z) := ⟨rfl, ⟨rfl, rfl⟩, (rfl : (form 0xE6).isSome = true)⟩
theorem isbZp (z : Byte) : Statement (.isbZp z) := ⟨rfl, ⟨rfl, rfl⟩, (rfl : (form 0xE7).isSome = true)⟩
theorem sbcImm (b : Byte) : Statement (.sbcImm b) := ⟨rfl, ⟨rfl, rfl⟩, (rfl : (form 0xE9).isSome = true)⟩
theorem sbcEBImm (b : Byte) : Statement (.sbcEBImm b) := ⟨rfl, ⟨rfl, rfl⟩, (rfl : (form 0xEB).isSome = true)⟩
theorem cpxAbs (a : Addr) : Statement (.cpxAbs a) := ⟨rfl, ⟨rfl, rfl⟩, (rfl : (form 0xEC).isSome = true)⟩
theorem sbcAbs (a : Addr) : Statement (.sbcAbs a) := ⟨rfl, ⟨rfl, rfl⟩, (rfl : (form 0xED).isSome = true)⟩
theorem incAbs (a : Addr) : Statement (.incAbs a) := ⟨rfl, ⟨rfl, rfl⟩, (rfl : (form 0xEE).isSome = true)⟩
theorem isbAbs (a : Addr) : Statement (.isbAbs a) := ⟨rfl, ⟨rfl, rfl⟩, (rfl : (form 0xEF).isSome = true)⟩
theorem beq (r : Byte) : Statement (.beq r) := ⟨rfl, ⟨rfl, rfl⟩, (rfl : (form 0xF0).isSome = true)⟩
theorem sbcIndY (z : Byte) : Statement (.sbcIndY z) := ⟨rfl, ⟨rfl, rfl⟩, (rfl : (form 0xF1).isSome = true)⟩
theorem isbIndY (z : Byte) : Statement (.isbIndY z) := ⟨rfl, ⟨rfl, rfl⟩, (rfl : (form 0xF3).isSome = true)⟩
theorem nopF4ZpX (z : Byte) : Statement (.nopF4ZpX z) := ⟨rfl, ⟨rfl, rfl⟩, (rfl : (form 0xF4).isSome = true)⟩
theorem sbcZpX (z : Byte) : Statement (.sbcZpX z) := ⟨rfl, ⟨rfl, rfl⟩, (rfl : (form 0xF5).isSome = true)⟩
theorem incZpX (z : Byte) : Statement (.incZpX z) := ⟨rfl, ⟨rfl, rfl⟩, (rfl : (form 0xF6).isSome = true)⟩
theorem isbZpX (z : Byte) : Statement (.isbZpX z) := ⟨rfl, ⟨rfl, rfl⟩, (rfl : (form 0xF7).isSome = true)⟩
theorem sbcAbsY (a : Addr) : Statement (.sbcAbsY a) := ⟨rfl, ⟨rfl, rfl⟩, (rfl : (form 0xF9).isSome = true)⟩
theorem isbAbsY (a : Addr) : Statement (.isbAbsY a) := ⟨rfl, ⟨rfl, rfl⟩, (rfl : (form 0xFB).isSome = true)⟩
theorem nopFCAbsX (a : Addr) : Statement (.nopFCAbsX a) := ⟨rfl, ⟨rfl, rfl⟩, (rfl : (form 0xFC).isSome = true)⟩
theorem sbcAbsX (a : Addr) : Statement (.sbcAbsX a) := ⟨rfl, ⟨rfl, rfl⟩, (rfl : (form 0xFD).isSome = true)⟩
theorem incAbsX (a : Addr) : Statement (.incAbsX a) := ⟨rfl, ⟨rfl, rfl⟩, (rfl : (form 0xFE).isSome = true)⟩
theorem isbAbsX (a : Addr) : Statement (.isbAbsX a) := ⟨rfl, ⟨rfl, rfl⟩, (rfl : (form 0xFF).isSome = true)⟩
theorem brk : Statement .brk := ⟨rfl, ⟨rfl, rfl⟩, (rfl : (form 0x00).isSome = true)⟩
theorem kil02 : Statement .kil02 := ⟨rfl, ⟨rfl, rfl⟩, (rfl : (form 0x02).isSome = true)⟩
theorem php : Statement .php := ⟨rfl, ⟨rfl, rfl⟩, (rfl : (form 0x08).isSome = true)⟩
theorem aslA : Statement .aslA := ⟨rfl, ⟨rfl, rfl⟩, (rfl : (form 0x0A).isSome = true)⟩
theorem kil12 : Statement .kil12 := ⟨rfl, ⟨rfl, rfl⟩, (rfl : (form 0x12).isSome = true)⟩
theorem clc : Statement .clc := ⟨rfl, ⟨rfl, rfl⟩, (rfl : (form 0x18).isSome = true)⟩
theorem nop1A : Statement .nop1A := ⟨rfl, ⟨rfl, rfl⟩, (rfl : (form 0x1A).isSome = true)⟩
theorem kil22 : Statement .kil22 := ⟨rfl, ⟨rfl, rfl⟩, (rfl : (form 0x22).isSome = true)⟩
theorem plp : Statement .plp := ⟨rfl, ⟨rfl, rfl⟩, (rfl : (form 0x28).isSome = true)⟩
theorem rolA : Statement .rolA := ⟨rfl, ⟨rfl, rfl⟩, (rfl : (form 0x2A).isSome = true)⟩
theorem kil32 : Statement .kil32 := ⟨rfl, ⟨rfl, rfl⟩, (rfl : (form 0x32).isSome = true)⟩
theorem sec : Statement .sec := ⟨rfl, ⟨rfl, rfl⟩, (rfl : (form 0x38).isSome = true)⟩
theorem nop3A : Statement .nop3A := ⟨rfl, ⟨rfl, rfl⟩, (rfl : (form 0x3A).isSome = true)⟩
theorem rti : Statement .rti := ⟨rfl, ⟨rfl, rfl⟩, (rfl : (form 0x40).isSome = true)⟩
theorem kil42 : Statement .kil42 := ⟨rfl, ⟨rfl, rfl⟩, (rfl : (form 0x42).isSome = true)⟩
theorem pha : Statement .pha := ⟨rfl, ⟨rfl, rfl⟩, (rfl : (form 0x48).isSome = true)⟩
theorem lsrA : Statement .lsrA := ⟨rfl, ⟨rfl, rfl⟩, (rfl : (form 0x4A).isSome = true)⟩
theorem kil52 : Statement .kil52 := ⟨rfl, ⟨rfl, rfl⟩, (rfl : (form 0x52).isSome = true)⟩
theorem cli : Statement .cli := ⟨rfl, ⟨rfl, rfl⟩, (rfl : (form 0x58).isSome = true)⟩
theorem nop5A : Statement .nop5A := ⟨rfl, ⟨rfl, rfl⟩, (rfl : (form 0x5A).isSome = true)⟩
theorem rts : Statement .rts := ⟨rfl, ⟨rfl, rfl⟩, (rfl : (form 0x60).isSome = true)⟩
theorem kil62 : Statement .kil62 := ⟨rfl, ⟨rfl, rfl⟩, (rfl : (form 0x62).isSome = true)⟩
theorem pla : Statement .pla := ⟨rfl, ⟨rfl, rfl⟩, (rfl : (form 0x68).isSome = true)⟩
theorem rorA : Statement .rorA := ⟨rfl, ⟨rfl, rfl⟩, (rfl : (form 0x6A).isSome = true)⟩
theorem kil72 : Statement .kil72 := ⟨rfl, ⟨rfl, rfl⟩, (rfl : (form 0x72).isSome = true)⟩
theorem sei : Statement .sei := ⟨rfl, ⟨rfl, rfl⟩, (rfl : (form 0x78).isSome = true)⟩
theorem nop7A : Statement .nop7A := ⟨rfl, ⟨rfl, rfl⟩, (rfl : (form 0x7A).isSome = true)⟩
theorem dey : Statement .dey := ⟨rfl, ⟨rfl, rfl⟩, (rfl : (form 0x88).isSome = true)⟩
theorem txa : Statement .txa := ⟨rfl, ⟨rfl, rfl⟩, (rfl : (form 0x8A).isSome = true)⟩
theorem kil92 : Statement .kil92 := ⟨rfl, ⟨rfl, rfl⟩, (rfl : (form 0x92).isSome = true)⟩
theorem tya : Statement .tya := ⟨rfl, ⟨rfl, rfl⟩, (rfl : (form 0x98).isSome = true)⟩
theorem txs : Statement .txs := ⟨rfl, ⟨rfl, rfl⟩, (rfl : (form 0x9A).isSome = true)⟩
theorem tay : Statement .tay := ⟨rfl, ⟨rfl, rfl⟩, (rfl : (form 0xA8).isSome = true)⟩
theorem tax : Statement .tax := ⟨rfl, ⟨rfl, rfl⟩, (rfl : (form 0xAA).isSome = true)⟩
theorem kilB2 : Statement .kilB2 := ⟨rfl, ⟨rfl, rfl⟩, (rfl : (form 0xB2).isSome = true)⟩
theorem clv : Statement .clv := ⟨rfl, ⟨rfl, rfl⟩, (rfl : (form 0xB8).isSome = true)⟩
theorem tsx : Statement .tsx := ⟨rfl, ⟨rfl, rfl⟩, (rfl : (form 0xBA).isSome = true)⟩
theorem iny : Statement .iny := ⟨rfl, ⟨rfl, rfl⟩, (rfl : (form 0xC8).isSome = true)⟩
theorem dex : Statement .dex := ⟨rfl, ⟨rfl, rfl⟩, (rfl : (form 0xCA).isSome = true)⟩
theorem kilD2 : Statement .kilD2 := ⟨rfl, ⟨rfl, rfl⟩, (rfl : (form 0xD2).isSome = true)⟩
theorem cld : Statement .cld := ⟨rfl, ⟨rfl, rfl⟩, (rfl : (form 0xD8).isSome = true)⟩
theorem nopDA : Statement .nopDA := ⟨rfl, ⟨rfl, rfl⟩, (rfl : (form 0xDA).isSome = true)⟩
theorem inx : Statement .inx := ⟨rfl, ⟨rfl, rfl⟩, (rfl : (form 0xE8).isSome = true)⟩
theorem nopEA : Statement .nopEA := ⟨rfl, ⟨rfl, rfl⟩, (rfl : (form 0xEA).isSome = true)⟩
theorem kilF2 : Statement .kilF2 := ⟨rfl, ⟨rfl, rfl⟩, (rfl : (form 0xF2).isSome = true)⟩
theorem sed : Statement .sed := ⟨rfl, ⟨rfl, rfl⟩, (rfl : (form 0xF8).isSome = true)⟩
theorem nopFA : Statement .nopFA := ⟨rfl, ⟨rfl, rfl⟩, (rfl : (form 0xFA).isSome = true)⟩

end Sys2Proof.Laws.Encoding
end

