-- ==== Sys2Proof/Tests/Slice0.lean ====
section
/-! SUPPORT. Tests on fixed values, their results taken from spec/95_test_vectors.md and the map of rule R112, and for every
statement with hypotheses a state and operands that meet them (`witness_…`). -/

open Sys2Proof Sys2Proof.Machine

namespace Sys2Proof.Tests

/-! ### What a test looks at -/

/-- The start state V0 of spec/95_test_vectors.md section 0. -/
def v0 : State := { State.reset with pc := 0x8000, history := [] }

/-- The registers a test names, in the vectors' order. -/
structure Regs where
  a : Byte
  x : Byte
  y : Byte
  sp : Byte
  pc : Addr
  p : Byte
  deriving DecidableEq, Repr

/-- The registers, the run status and the data and stack writes of a next state. -/
def seen (r : Result) : Option (Regs × RunStatus × List (Addr × Byte)) :=
  match r with
  | .next t =>
    some (⟨t.a, t.x, t.y, t.sp, t.pc, t.p⟩, t.status,
      (t.history.filter (fun e => e.kind == .dataWrite || e.kind == .stackWrite)).map (fun e => (e.addr, e.value.getD 0x00)))
  | .fault _ => none
  | .refused _ => none

/-- The kind and record of a fatal error. -/
def faulted (r : Result) : Option (FatalKind × FatalRecord) :=
  match r with
  | .fault f => some (f.kind, f.record)
  | .next _ => none
  | .refused _ => none

/-- The opcode byte a step refuses. -/
def refusedOp (r : Result) : Option Byte :=
  match r with
  | .refused (.unstableOpcode op) => some op
  | .refused _ => none
  | .next _ => none
  | .fault _ => none

/-- The accesses of a next state's history, with their bytes. -/
def events (r : Result) : List (AccessKind × Addr × Option Byte) :=
  match r with
  | .next t => t.history.map (fun e => (e.kind, e.addr, e.value))
  | .fault f => f.history.map (fun e => (e.kind, e.addr, e.value))
  | .refused _ => []

/-- The mnemonic and operand that an opcode byte followed by 34 12 decodes to, if its row has that opcode byte. -/
def cell (op : Byte) : Option (Mnemonic × Operand) :=
  match decode [op, 0x34, 0x12] with
  | .instr i _ => if i.opcode = op then some (i.mnemonic, i.operand) else none
  | .rejected _ => none

/-- One row of the opcode map, sixteen bytes from its first. -/
def mapRow (first : Byte) : List (Option (Mnemonic × Operand)) :=
  [0, 1, 2, 3, 4, 5, 6, 7, 8, 9, 10, 11, 12, 13, 14, 15].map (fun i => cell (first + i))

/-! ### Well-formedness -/

/-- An image of three bytes is ill-formed, and construction refuses it (D3, R340). -/
theorem test_image_of_three_bytes_is_refused :
    imageWellFormed [0x00, 0x00, 0x00] = false ∧
      construct [0x00, 0x00, 0x00] (Vector.replicate 2048 0x00) [] Config.default = .refused (.imageLength 3) := by
  constructor <;> rfl

theorem test_image_of_16_kib_is_well_formed : imageWellFormed (List.replicate 16384 0x00) = true := by
  rw [imageWellFormed, List.length_replicate]; rfl

theorem test_image_of_32_kib_is_well_formed : imageWellFormed (List.replicate 32768 0x00) = true := by
  rw [imageWellFormed, List.length_replicate]; rfl

theorem test_every_instruction_term_is_well_formed (i : Instr) : i.wellFormed = true := rfl

/-! ### Decoding -/

/-- `aaabbbcc` of R113: LDA is `aaa = 101, cc = 01`, Immediate `bbb = 010`. -/
theorem test_decode_bits_load : decode [0b10101001, 0x7F] = .instr (.ldaImm 0x7F) [] := by decide

/-- STX zp,Y: `cc = 10, aaa = 100, bbb = 101`. -/
theorem test_decode_bits_store : decode [0b10010110, 0x10] = .instr (.stxZpY 0x10) [] := by decide

/-- TAX is 0xAA. -/
theorem test_decode_bits_transfer : decode [0b10101010] = .instr .tax [] := by decide

/-- ADC (zp),Y: `cc = 01, aaa = 011, bbb = 100`. -/
theorem test_decode_bits_arithmetic : decode [0b01110001, 0x10] = .instr (.adcIndY 0x10) [] := by decide

/-- INC abs,X: `cc = 10, aaa = 111, bbb = 111`, its address low byte first. -/
theorem test_decode_bits_inc : decode [0b11111110, 0x34, 0x12] = .instr (.incAbsX 0x1234) [] := by decide

/-- ROR zp: `cc = 10, aaa = 011, bbb = 001`. -/
theorem test_decode_bits_shift : decode [0b01100110, 0x10] = .instr (.rorZp 0x10) [] := by decide

/-- Branches are `xxy10000`: flag Z `11`, value 0. -/
theorem test_decode_bits_branch : decode [0b11010000, 0xFE] = .instr (.bne 0xFE) [] := by decide

/-- JMP (abs) is 0x6C. -/
theorem test_decode_bits_jump : decode [0b01101100, 0xFF, 0x02] = .instr (.jmpInd 0x02FF) [] := by decide

/-- SEI is 0x78, BRK 0x00, and KIL 0xF2. -/
theorem test_decode_bits_system :
    decode [0b01111000] = .instr .sei [] ∧ decode [0b00000000] = .instr .brk [] ∧ decode [0b11110010] = .instr .kilF2 [] := by
  decide

/-- `cc = 11` combines the operations of its row: SLO abs beside ORA abs and ASL abs. -/
theorem test_decode_bits_undocumented : decode [0b00001111, 0x00, 0x02] = .instr (.sloAbs 0x0200) [] := by decide

/-- SHX abs,Y is 0x9E. -/
theorem test_decode_bits_unstable : decode [0b10011110, 0x00, 0x02] = .instr (.shxAbsY 0x0200) [] := by decide

/-- A truncated instruction is rejected by name. -/
theorem test_decode_truncated : decode [0xAD, 0x34] = .rejected .truncated := by decide

/-- The table's numbering: the first byte is the least significant. -/
theorem test_decodeTableWord_little_endian : decodeTableWord 24 0x1234AD = some (.ldaAbs 0x1234) := by decide

/-- Row 0x of the opcode map (R112). -/
theorem test_map_row_0x : mapRow 0x00 =
    [some (.BRK, .implied), some (.ORA, .indirectX 0x34), some (.KIL, .implied),
     some (.SLO, .indirectX 0x34), some (.NOP, .zeroPage 0x34), some (.ORA, .zeroPage 0x34),
     some (.ASL, .zeroPage 0x34), some (.SLO, .zeroPage 0x34), some (.PHP, .implied),
     some (.ORA, .immediate 0x34), some (.ASL, .accumulator), some (.ANC, .immediate 0x34),
     some (.NOP, .absolute 0x1234), some (.ORA, .absolute 0x1234), some (.ASL, .absolute 0x1234),
     some (.SLO, .absolute 0x1234)] := by decide

/-- Row 1x of the opcode map (R112). -/
theorem test_map_row_1x : mapRow 0x10 =
    [some (.BPL, .relative 0x34), some (.ORA, .indirectY 0x34), some (.KIL, .implied),
     some (.SLO, .indirectY 0x34), some (.NOP, .zeroPageX 0x34), some (.ORA, .zeroPageX 0x34),
     some (.ASL, .zeroPageX 0x34), some (.SLO, .zeroPageX 0x34), some (.CLC, .implied),
     some (.ORA, .absoluteY 0x1234), some (.NOP, .implied), some (.SLO, .absoluteY 0x1234),
     some (.NOP, .absoluteX 0x1234), some (.ORA, .absoluteX 0x1234), some (.ASL, .absoluteX 0x1234),
     some (.SLO, .absoluteX 0x1234)] := by decide

/-- Row 2x of the opcode map (R112). -/
theorem test_map_row_2x : mapRow 0x20 =
    [some (.JSR, .target 0x1234), some (.AND, .indirectX 0x34), some (.KIL, .implied),
     some (.RLA, .indirectX 0x34), some (.BIT, .zeroPage 0x34), some (.AND, .zeroPage 0x34),
     some (.ROL, .zeroPage 0x34), some (.RLA, .zeroPage 0x34), some (.PLP, .implied),
     some (.AND, .immediate 0x34), some (.ROL, .accumulator), some (.ANC, .immediate 0x34),
     some (.BIT, .absolute 0x1234), some (.AND, .absolute 0x1234), some (.ROL, .absolute 0x1234),
     some (.RLA, .absolute 0x1234)] := by decide

/-- Row 3x of the opcode map (R112). -/
theorem test_map_row_3x : mapRow 0x30 =
    [some (.BMI, .relative 0x34), some (.AND, .indirectY 0x34), some (.KIL, .implied),
     some (.RLA, .indirectY 0x34), some (.NOP, .zeroPageX 0x34), some (.AND, .zeroPageX 0x34),
     some (.ROL, .zeroPageX 0x34), some (.RLA, .zeroPageX 0x34), some (.SEC, .implied),
     some (.AND, .absoluteY 0x1234), some (.NOP, .implied), some (.RLA, .absoluteY 0x1234),
     some (.NOP, .absoluteX 0x1234), some (.AND, .absoluteX 0x1234), some (.ROL, .absoluteX 0x1234),
     some (.RLA, .absoluteX 0x1234)] := by decide

/-- Row 4x of the opcode map (R112). -/
theorem test_map_row_4x : mapRow 0x40 =
    [some (.RTI, .implied), some (.EOR, .indirectX 0x34), some (.KIL, .implied),
     some (.SRE, .indirectX 0x34), some (.NOP, .zeroPage 0x34), some (.EOR, .zeroPage 0x34),
     some (.LSR, .zeroPage 0x34), some (.SRE, .zeroPage 0x34), some (.PHA, .implied),
     some (.EOR, .immediate 0x34), some (.LSR, .accumulator), some (.ALR, .immediate 0x34),
     some (.JMP, .target 0x1234), some (.EOR, .absolute 0x1234), some (.LSR, .absolute 0x1234),
     some (.SRE, .absolute 0x1234)] := by decide

/-- Row 5x of the opcode map (R112). -/
theorem test_map_row_5x : mapRow 0x50 =
    [some (.BVC, .relative 0x34), some (.EOR, .indirectY 0x34), some (.KIL, .implied),
     some (.SRE, .indirectY 0x34), some (.NOP, .zeroPageX 0x34), some (.EOR, .zeroPageX 0x34),
     some (.LSR, .zeroPageX 0x34), some (.SRE, .zeroPageX 0x34), some (.CLI, .implied),
     some (.EOR, .absoluteY 0x1234), some (.NOP, .implied), some (.SRE, .absoluteY 0x1234),
     some (.NOP, .absoluteX 0x1234), some (.EOR, .absoluteX 0x1234), some (.LSR, .absoluteX 0x1234),
     some (.SRE, .absoluteX 0x1234)] := by decide

/-- Row 6x of the opcode map (R112). -/
theorem test_map_row_6x : mapRow 0x60 =
    [some (.RTS, .implied), some (.ADC, .indirectX 0x34), some (.KIL, .implied),
     some (.RRA, .indirectX 0x34), some (.NOP, .zeroPage 0x34), some (.ADC, .zeroPage 0x34),
     some (.ROR, .zeroPage 0x34), some (.RRA, .zeroPage 0x34), some (.PLA, .implied),
     some (.ADC, .immediate 0x34), some (.ROR, .accumulator), some (.ARR, .immediate 0x34),
     some (.JMP, .indirectTarget 0x1234), some (.ADC, .absolute 0x1234), some (.ROR, .absolute 0x1234),
     some (.RRA, .absolute 0x1234)] := by decide

/-- Row 7x of the opcode map (R112). -/
theorem test_map_row_7x : mapRow 0x70 =
    [some (.BVS, .relative 0x34), some (.ADC, .indirectY 0x34), some (.KIL, .implied),
     some (.RRA, .indirectY 0x34), some (.NOP, .zeroPageX 0x34), some (.ADC, .zeroPageX 0x34),
     some (.ROR, .zeroPageX 0x34), some (.RRA, .zeroPageX 0x34), some (.SEI, .implied),
     some (.ADC, .absoluteY 0x1234), some (.NOP, .implied), some (.RRA, .absoluteY 0x1234),
     some (.NOP, .absoluteX 0x1234), some (.ADC, .absoluteX 0x1234), some (.ROR, .absoluteX 0x1234),
     some (.RRA, .absoluteX 0x1234)] := by decide

/-- Row 8x of the opcode map (R112). -/
theorem test_map_row_8x : mapRow 0x80 =
    [some (.NOP, .immediate 0x34), some (.STA, .indirectX 0x34), some (.NOP, .immediate 0x34),
     some (.SAX, .indirectX 0x34), some (.STY, .zeroPage 0x34), some (.STA, .zeroPage 0x34),
     some (.STX, .zeroPage 0x34), some (.SAX, .zeroPage 0x34), some (.DEY, .implied),
     some (.NOP, .immediate 0x34), some (.TXA, .implied), some (.XAA, .immediate 0x34),
     some (.STY, .absolute 0x1234), some (.STA, .absolute 0x1234), some (.STX, .absolute 0x1234),
     some (.SAX, .absolute 0x1234)] := by decide

/-- Row 9x of the opcode map (R112). -/
theorem test_map_row_9x : mapRow 0x90 =
    [some (.BCC, .relative 0x34), some (.STA, .indirectY 0x34), some (.KIL, .implied),
     some (.SHA, .indirectY 0x34), some (.STY, .zeroPageX 0x34), some (.STA, .zeroPageX 0x34),
     some (.STX, .zeroPageY 0x34), some (.SAX, .zeroPageY 0x34), some (.TYA, .implied),
     some (.STA, .absoluteY 0x1234), some (.TXS, .implied), some (.TAS, .absoluteY 0x1234),
     some (.SHY, .absoluteX 0x1234), some (.STA, .absoluteX 0x1234), some (.SHX, .absoluteY 0x1234),
     some (.SHA, .absoluteY 0x1234)] := by decide

/-- Row Ax of the opcode map (R112). -/
theorem test_map_row_Ax : mapRow 0xA0 =
    [some (.LDY, .immediate 0x34), some (.LDA, .indirectX 0x34), some (.LDX, .immediate 0x34),
     some (.LAX, .indirectX 0x34), some (.LDY, .zeroPage 0x34), some (.LDA, .zeroPage 0x34),
     some (.LDX, .zeroPage 0x34), some (.LAX, .zeroPage 0x34), some (.TAY, .implied),
     some (.LDA, .immediate 0x34), some (.TAX, .implied), some (.LXA, .immediate 0x34),
     some (.LDY, .absolute 0x1234), some (.LDA, .absolute 0x1234), some (.LDX, .absolute 0x1234),
     some (.LAX, .absolute 0x1234)] := by decide

/-- Row Bx of the opcode map (R112). -/
theorem test_map_row_Bx : mapRow 0xB0 =
    [some (.BCS, .relative 0x34), some (.LDA, .indirectY 0x34), some (.KIL, .implied),
     some (.LAX, .indirectY 0x34), some (.LDY, .zeroPageX 0x34), some (.LDA, .zeroPageX 0x34),
     some (.LDX, .zeroPageY 0x34), some (.LAX, .zeroPageY 0x34), some (.CLV, .implied),
     some (.LDA, .absoluteY 0x1234), some (.TSX, .implied), some (.LAS, .absoluteY 0x1234),
     some (.LDY, .absoluteX 0x1234), some (.LDA, .absoluteX 0x1234), some (.LDX, .absoluteY 0x1234),
     some (.LAX, .absoluteY 0x1234)] := by decide

/-- Row Cx of the opcode map (R112). -/
theorem test_map_row_Cx : mapRow 0xC0 =
    [some (.CPY, .immediate 0x34), some (.CMP, .indirectX 0x34), some (.NOP, .immediate 0x34),
     some (.DCP, .indirectX 0x34), some (.CPY, .zeroPage 0x34), some (.CMP, .zeroPage 0x34),
     some (.DEC, .zeroPage 0x34), some (.DCP, .zeroPage 0x34), some (.INY, .implied),
     some (.CMP, .immediate 0x34), some (.DEX, .implied), some (.AXS, .immediate 0x34),
     some (.CPY, .absolute 0x1234), some (.CMP, .absolute 0x1234), some (.DEC, .absolute 0x1234),
     some (.DCP, .absolute 0x1234)] := by decide

/-- Row Dx of the opcode map (R112). -/
theorem test_map_row_Dx : mapRow 0xD0 =
    [some (.BNE, .relative 0x34), some (.CMP, .indirectY 0x34), some (.KIL, .implied),
     some (.DCP, .indirectY 0x34), some (.NOP, .zeroPageX 0x34), some (.CMP, .zeroPageX 0x34),
     some (.DEC, .zeroPageX 0x34), some (.DCP, .zeroPageX 0x34), some (.CLD, .implied),
     some (.CMP, .absoluteY 0x1234), some (.NOP, .implied), some (.DCP, .absoluteY 0x1234),
     some (.NOP, .absoluteX 0x1234), some (.CMP, .absoluteX 0x1234), some (.DEC, .absoluteX 0x1234),
     some (.DCP, .absoluteX 0x1234)] := by decide

/-- Row Ex of the opcode map (R112). -/
theorem test_map_row_Ex : mapRow 0xE0 =
    [some (.CPX, .immediate 0x34), some (.SBC, .indirectX 0x34), some (.NOP, .immediate 0x34),
     some (.ISB, .indirectX 0x34), some (.CPX, .zeroPage 0x34), some (.SBC, .zeroPage 0x34),
     some (.INC, .zeroPage 0x34), some (.ISB, .zeroPage 0x34), some (.INX, .implied),
     some (.SBC, .immediate 0x34), some (.NOP, .implied), some (.SBC, .immediate 0x34),
     some (.CPX, .absolute 0x1234), some (.SBC, .absolute 0x1234), some (.INC, .absolute 0x1234),
     some (.ISB, .absolute 0x1234)] := by decide

/-- Row Fx of the opcode map (R112). -/
theorem test_map_row_Fx : mapRow 0xF0 =
    [some (.BEQ, .relative 0x34), some (.SBC, .indirectY 0x34), some (.KIL, .implied),
     some (.ISB, .indirectY 0x34), some (.NOP, .zeroPageX 0x34), some (.SBC, .zeroPageX 0x34),
     some (.INC, .zeroPageX 0x34), some (.ISB, .zeroPageX 0x34), some (.SED, .implied),
     some (.SBC, .absoluteY 0x1234), some (.NOP, .implied), some (.ISB, .absoluteY 0x1234),
     some (.NOP, .absoluteX 0x1234), some (.SBC, .absoluteX 0x1234), some (.INC, .absoluteX 0x1234),
     some (.ISB, .absoluteX 0x1234)] := by decide

/-! ### One step of each mnemonic (spec/95_test_vectors.md sections 1 and 2) -/

/-- LS-2: `8000: A9 80`, R130. -/
theorem test_lda_immediate_sets_N :
    seen (step { v0 with prg := [(0x0, 0xA9), (0x1, 0x80)] }) =
      some (⟨0x80, 0x00, 0x00, 0xFD, 0x8002, 0xA4⟩, .running, []) := by decide

/-- LS-4: `8000: B5 FF`, R130, R101. -/
theorem test_lda_zero_page_index_wraps :
    seen (step { v0 with x := 0x02, ram := [(0x1, 0x33)], prg := [(0x0, 0xB5), (0x1, 0xFF)] }) =
      some (⟨0x33, 0x02, 0x00, 0xFD, 0x8002, 0x24⟩, .running, []) := by decide

/-- LS-5: `8000: B6 FF`, R131, R102. -/
theorem test_ldx_zero_page_Y_wraps :
    seen (step { v0 with y := 0x02, ram := [(0x1, 0x81)], prg := [(0x0, 0xB6), (0x1, 0xFF)] }) =
      some (⟨0x00, 0x81, 0x02, 0xFD, 0x8002, 0xA4⟩, .running, []) := by decide

/-- LS-9: `8000: A1 FE`, R130, R106. -/
theorem test_lda_pointer_high_byte_wraps :
    seen (step { v0 with x := 0x01, ram := [(0x0, 0x02), (0x200, 0x11)], prg := [(0x0, 0xA1), (0x1, 0xFE)] }) =
      some (⟨0x11, 0x01, 0x00, 0xFD, 0x8002, 0x24⟩, .running, []) := by decide

/-- LS-12: `8000: A0 00`, R132. -/
theorem test_ldy_keeps_carry :
    seen (step { v0 with y := 0x05, p := 0xA5, prg := [(0x0, 0xA0)] }) =
      some (⟨0x00, 0x00, 0x00, 0xFD, 0x8002, 0x27⟩, .running, []) := by decide

/-- LS-14: `8000: 96 FF`, R134, R102. -/
theorem test_stx_zero_page_Y_wraps :
    seen (step { v0 with x := 0x3C, y := 0x02, prg := [(0x0, 0x96), (0x1, 0xFF)] }) =
      some (⟨0x00, 0x3C, 0x02, 0xFD, 0x8002, 0x24⟩, .running, [(0x0001, 0x3C)]) := by decide

/-- LS-15: `8000: 94 10`, R135, R101. -/
theorem test_sty_zero_page_X :
    seen (step { v0 with x := 0x05, y := 0x3C, prg := [(0x0, 0x94), (0x1, 0x10)] }) =
      some (⟨0x00, 0x05, 0x3C, 0xFD, 0x8002, 0x24⟩, .running, [(0x0015, 0x3C)]) := by decide

/-- LS-16: `8000: 8D 00 80`, R133, R317. -/
theorem test_sta_to_prg_is_fatal :
    faulted (step { v0 with a := 0x01, prg := [(0x0, 0x8D), (0x2, 0x80)] }) =
      some (.romWrite, ⟨0x8000, some 0x8D, 0x8000, some .dataWrite⟩) := by decide

/-- ID-5: `8000: EE 02 20`, R182, R316. -/
theorem test_inc_of_ppu_status_reads_then_faults :
    faulted (step { v0 with prg := [(0x0, 0xEE), (0x1, 0x02), (0x2, 0x20)], ppuScript := [.done 0x80] }) =
      some (.ppuStatusWrite, ⟨0x8000, some 0xEE, 0x2002, some .dataWrite⟩) := by decide

/-- LS-22: `8000: 8D F8 3F`, R133, R54. -/
theorem test_sta_relays_to_mirrored_ppu_register :
    seen (step { v0 with a := 0x90, prg := [(0x0, 0x8D), (0x1, 0xF8), (0x2, 0x3F)], ppuScript := [.done 0x00] }) =
      some (⟨0x90, 0x00, 0x00, 0xFD, 0x8003, 0x24⟩, .running, [(0x3FF8, 0x90)]) := by decide

/-- LS-23: `8000: AD 00 C0`, R130, R57. -/
theorem test_lda_reads_16_kib_image_mirror :
    seen (step { v0 with prg := [(0x0, 0xAD), (0x2, 0xC0)], prgSize := .kib16 }) =
      some (⟨0xAD, 0x00, 0x00, 0xFD, 0x8003, 0xA4⟩, .running, []) := by decide

/-- LS-26: `8000: AD 07 20`, R130, R318. -/
theorem test_lda_ppu_fault_is_fatal :
    faulted (step { v0 with prg := [(0x0, 0xAD), (0x1, 0x07), (0x2, 0x20)], ppuScript := [.fault] }) =
      some (.ppuFault, ⟨0x8000, some 0xAD, 0x2007, some .dataRead⟩) := by decide

/-- TR-1: `8000: AA`, R136. -/
theorem test_tax_sets_Z :
    seen (step { v0 with x := 0x55, prg := [(0x0, 0xAA)] }) =
      some (⟨0x00, 0x00, 0x00, 0xFD, 0x8001, 0x26⟩, .running, []) := by decide

/-- TR-2: `8000: A8`, R137. -/
theorem test_tay_sets_N :
    seen (step { v0 with a := 0x80, prg := [(0x0, 0xA8)] }) =
      some (⟨0x80, 0x00, 0x80, 0xFD, 0x8001, 0xA4⟩, .running, []) := by decide

/-- TR-3: `8000: 8A`, R138. -/
theorem test_txa_sets_N :
    seen (step { v0 with x := 0xFF, prg := [(0x0, 0x8A)] }) =
      some (⟨0xFF, 0xFF, 0x00, 0xFD, 0x8001, 0xA4⟩, .running, []) := by decide

/-- TR-4: `8000: 98`, R139. -/
theorem test_tya_clears_Z_and_N :
    seen (step { v0 with y := 0x01, p := 0xA6, prg := [(0x0, 0x98)] }) =
      some (⟨0x01, 0x00, 0x01, 0xFD, 0x8001, 0x24⟩, .running, []) := by decide

/-- TR-5: `8000: BA`, R140. -/
theorem test_tsx_sets_Z :
    seen (step { v0 with sp := 0x00, prg := [(0x0, 0xBA)] }) =
      some (⟨0x00, 0x00, 0x00, 0x00, 0x8001, 0x26⟩, .running, []) := by decide

/-- TR-6: `8000: 9A`, R141. -/
theorem test_txs_sets_no_flag :
    seen (step { v0 with prg := [(0x0, 0x9A)] }) =
      some (⟨0x00, 0x00, 0x00, 0x00, 0x8001, 0x24⟩, .running, []) := by decide

/-- ST-2: `8000: 48`, R142, R28. -/
theorem test_pha_wraps_stack_pointer :
    seen (step { v0 with a := 0x7E, sp := 0x00, prg := [(0x0, 0x48)] }) =
      some (⟨0x7E, 0x00, 0x00, 0xFF, 0x8001, 0x24⟩, .running, [(0x0100, 0x7E)]) := by decide

/-- ST-3: `8000: 68`, R144, R29. -/
theorem test_pla_wraps_stack_pointer :
    seen (step { v0 with sp := 0xFF, ram := [(0x100, 0x80)], prg := [(0x0, 0x68)] }) =
      some (⟨0x80, 0x00, 0x00, 0x00, 0x8001, 0xA4⟩, .running, []) := by decide

/-- ST-6: `8000: 08`, R143. -/
theorem test_php_pushes_B_and_B2 :
    seen (step { v0 with p := 0xC3, prg := [(0x0, 0x08)] }) =
      some (⟨0x00, 0x00, 0x00, 0xFC, 0x8001, 0xC3⟩, .running, [(0x01FD, 0xF3)]) := by decide

/-- ST-7: `8000: 28`, R145, R33. -/
theorem test_plp_clears_B_sets_B2 :
    seen (step { v0 with sp := 0xFC, ram := [(0x1FD, 0xFF)], prg := [(0x0, 0x28)] }) =
      some (⟨0x00, 0x00, 0x00, 0xFD, 0x8001, 0xEF⟩, .running, []) := by decide

/-- AS-4: `8000: 69 80`, R172. -/
theorem test_adc_two_negatives_overflow :
    seen (step { v0 with a := 0x80, prg := [(0x0, 0x69), (0x1, 0x80)] }) =
      some (⟨0x00, 0x00, 0x00, 0xFD, 0x8002, 0x67⟩, .running, []) := by decide

/-- AS-6: `8000: 69 01`, R172, R24. -/
theorem test_adc_ignores_decimal_flag :
    seen (step { v0 with a := 0x09, p := 0x2C, prg := [(0x0, 0x69), (0x1, 0x01)] }) =
      some (⟨0x0A, 0x00, 0x00, 0xFD, 0x8002, 0x2C⟩, .running, []) := by decide

/-- AS-8: `8000: E9 B0`, R173. -/
theorem test_sbc_borrows_without_carry :
    seen (step { v0 with a := 0x50, prg := [(0x0, 0xE9), (0x1, 0xB0)] }) =
      some (⟨0x9F, 0x00, 0x00, 0xFD, 0x8002, 0xE4⟩, .running, []) := by decide

/-- AS-10: `8000: E9 01`, R173. -/
theorem test_sbc_overflows :
    seen (step { v0 with a := 0x80, p := 0x25, prg := [(0x0, 0xE9), (0x1, 0x01)] }) =
      some (⟨0x7F, 0x00, 0x00, 0xFD, 0x8002, 0x65⟩, .running, []) := by decide

/-- LG-2: `8000: 29 81`, R174. -/
theorem test_and_immediate :
    seen (step { v0 with a := 0xFF, prg := [(0x0, 0x29), (0x1, 0x81)] }) =
      some (⟨0x81, 0x00, 0x00, 0xFD, 0x8002, 0xA4⟩, .running, []) := by decide

/-- LG-4: `8000: 09 00`, R175. -/
theorem test_ora_clears_N :
    seen (step { v0 with p := 0xA4, prg := [(0x0, 0x09)] }) =
      some (⟨0x00, 0x00, 0x00, 0xFD, 0x8002, 0x26⟩, .running, []) := by decide

/-- LG-6: `8000: 45 10`, R176. -/
theorem test_eor_zero_page :
    seen (step { v0 with a := 0x0F, ram := [(0x10, 0xF0)], prg := [(0x0, 0x45), (0x1, 0x10)] }) =
      some (⟨0xFF, 0x00, 0x00, 0xFD, 0x8002, 0xA4⟩, .running, []) := by decide

/-- CP-3: `8000: C9 01`, R178. -/
theorem test_cmp_is_unsigned :
    seen (step { v0 with a := 0x80, prg := [(0x0, 0xC9), (0x1, 0x01)] }) =
      some (⟨0x80, 0x00, 0x00, 0xFD, 0x8002, 0x25⟩, .running, []) := by decide

/-- CP-5: `8000: E0 00`, R179. -/
theorem test_cpx_equal :
    seen (step { v0 with prg := [(0x0, 0xE0)] }) =
      some (⟨0x00, 0x00, 0x00, 0xFD, 0x8002, 0x27⟩, .running, []) := by decide

/-- CP-6: `8000: C0 FF`, R180. -/
theorem test_cpy_less :
    seen (step { v0 with y := 0xFE, prg := [(0x0, 0xC0), (0x1, 0xFF)] }) =
      some (⟨0x00, 0x00, 0xFE, 0xFD, 0x8002, 0xA4⟩, .running, []) := by decide

/-- BT-1: `8000: 24 10`, R181. -/
theorem test_bit_copies_memory_bits :
    seen (step { v0 with a := 0x01, ram := [(0x10, 0xC0)], prg := [(0x0, 0x24), (0x1, 0x10)] }) =
      some (⟨0x01, 0x00, 0x00, 0xFD, 0x8002, 0xE6⟩, .running, []) := by decide

/-- ID-3: `8000: FE FF 00`, R182. -/
theorem test_inc_absolute_X :
    seen (step { v0 with x := 0x02, ram := [(0x101, 0x7F)], prg := [(0x0, 0xFE), (0x1, 0xFF)] }) =
      some (⟨0x00, 0x02, 0x00, 0xFD, 0x8003, 0xA4⟩, .running, [(0x0101, 0x80)]) := by decide

/-- ID-4: `8000: EE 07 20`, R182, R66. -/
theorem test_inc_relays_read_then_write :
    seen (step { v0 with prg := [(0x0, 0xEE), (0x1, 0x07), (0x2, 0x20)], ppuScript := [.done 0x41, .done 0x00] }) =
      some (⟨0x00, 0x00, 0x00, 0xFD, 0x8003, 0x24⟩, .running, [(0x2007, 0x42)]) := by decide

/-- ID-2: `8000: C6 10`, R183. -/
theorem test_dec_wraps :
    seen (step { v0 with prg := [(0x0, 0xC6), (0x1, 0x10)] }) =
      some (⟨0x00, 0x00, 0x00, 0xFD, 0x8002, 0xA4⟩, .running, [(0x0010, 0xFF)]) := by decide

/-- ID-6: `8000: CE 00 80`, R183, R317. -/
theorem test_dec_of_prg_is_fatal :
    faulted (step { v0 with prg := [(0x0, 0xCE), (0x2, 0x80)] }) =
      some (.romWrite, ⟨0x8000, some 0xCE, 0x8000, some .dataWrite⟩) := by decide

/-- ID-7: `8000: E8`, R184. -/
theorem test_inx_wraps :
    seen (step { v0 with x := 0xFF, prg := [(0x0, 0xE8)] }) =
      some (⟨0x00, 0x00, 0x00, 0xFD, 0x8001, 0x26⟩, .running, []) := by decide

/-- ID-8: `8000: C8`, R185. -/
theorem test_iny_sets_N :
    seen (step { v0 with y := 0x7F, prg := [(0x0, 0xC8)] }) =
      some (⟨0x00, 0x00, 0x80, 0xFD, 0x8001, 0xA4⟩, .running, []) := by decide

/-- ID-9: `8000: CA`, R186. -/
theorem test_dex_wraps :
    seen (step { v0 with prg := [(0x0, 0xCA)] }) =
      some (⟨0x00, 0xFF, 0x00, 0xFD, 0x8001, 0xA4⟩, .running, []) := by decide

/-- ID-10: `8000: 88`, R187. -/
theorem test_dey_sets_Z :
    seen (step { v0 with y := 0x01, prg := [(0x0, 0x88)] }) =
      some (⟨0x00, 0x00, 0x00, 0xFD, 0x8001, 0x26⟩, .running, []) := by decide

/-- SH-2: `8000: 0A`, R189. -/
theorem test_asl_accumulator_ignores_carry :
    seen (step { v0 with a := 0x41, p := 0x25, prg := [(0x0, 0x0A)] }) =
      some (⟨0x82, 0x00, 0x00, 0xFD, 0x8001, 0xA4⟩, .running, []) := by decide

/-- SH-9: `8000: 06 10`, R189. -/
theorem test_asl_zero_page :
    seen (step { v0 with ram := [(0x10, 0xC1)], prg := [(0x0, 0x06), (0x1, 0x10)] }) =
      some (⟨0x00, 0x00, 0x00, 0xFD, 0x8002, 0xA5⟩, .running, [(0x0010, 0x82)]) := by decide

/-- SH-4: `8000: 4A`, R190. -/
theorem test_lsr_clears_N :
    seen (step { v0 with a := 0xFF, p := 0xA4, prg := [(0x0, 0x4A)] }) =
      some (⟨0x7F, 0x00, 0x00, 0xFD, 0x8001, 0x25⟩, .running, []) := by decide

/-- SH-6: `8000: 2A`, R191. -/
theorem test_rol_carry_in :
    seen (step { v0 with p := 0x25, prg := [(0x0, 0x2A)] }) =
      some (⟨0x01, 0x00, 0x00, 0xFD, 0x8001, 0x24⟩, .running, []) := by decide

/-- SH-7: `8000: 6A`, R192. -/
theorem test_ror_carry_both_ways :
    seen (step { v0 with a := 0x01, p := 0x25, prg := [(0x0, 0x6A)] }) =
      some (⟨0x80, 0x00, 0x00, 0xFD, 0x8001, 0xA5⟩, .running, []) := by decide

/-- BR-1: `8000: D0 10`, R224. -/
theorem test_bne_taken :
    seen (step { v0 with prg := [(0x0, 0xD0), (0x1, 0x10)] }) =
      some (⟨0x00, 0x00, 0x00, 0xFD, 0x8012, 0x24⟩, .running, []) := by decide

/-- BR-3: `8010: F0 FE`, R223. -/
theorem test_beq_to_itself :
    seen (step { v0 with p := 0x26, pc := 0x8010, prg := [(0x10, 0xF0), (0x11, 0xFE)] }) =
      some (⟨0x00, 0x00, 0x00, 0xFD, 0x8010, 0x26⟩, .running, []) := by decide

/-- BR-4: `8000: 30 80`, R225. -/
theorem test_bmi_backwards_into_unmapped :
    seen (step { v0 with p := 0xA4, prg := [(0x0, 0x30), (0x1, 0x80)] }) =
      some (⟨0x00, 0x00, 0x00, 0xFD, 0x7F82, 0xA4⟩, .running, []) := by decide

/-- BR-5: `8000: 10 7F`, R226. -/
theorem test_bpl_forwards :
    seen (step { v0 with prg := [(0x0, 0x10), (0x1, 0x7F)] }) =
      some (⟨0x00, 0x00, 0x00, 0xFD, 0x8081, 0x24⟩, .running, []) := by decide

/-- BR-6: `FFF0: 90 7F`, R221. -/
theorem test_bcc_wraps_address_space :
    seen (step { v0 with pc := 0xFFF0, prg := [(0x7FF0, 0x90), (0x7FF1, 0x7F)] }) =
      some (⟨0x00, 0x00, 0x00, 0xFD, 0x0071, 0x24⟩, .running, []) := by decide

/-- BR-7: `8000: B0 FF`, R222. -/
theorem test_bcs_onto_its_operand :
    seen (step { v0 with p := 0x25, prg := [(0x0, 0xB0), (0x1, 0xFF)] }) =
      some (⟨0x00, 0x00, 0x00, 0xFD, 0x8001, 0x25⟩, .running, []) := by decide

/-- BR-8: `8000: 50 04`, R227. -/
theorem test_bvc_not_taken :
    seen (step { v0 with p := 0x64, prg := [(0x0, 0x50), (0x1, 0x04)] }) =
      some (⟨0x00, 0x00, 0x00, 0xFD, 0x8002, 0x64⟩, .running, []) := by decide

/-- BR-9: `8000: 70 04`, R228. -/
theorem test_bvs_taken :
    seen (step { v0 with p := 0x64, prg := [(0x0, 0x70), (0x1, 0x04)] }) =
      some (⟨0x00, 0x00, 0x00, 0xFD, 0x8006, 0x64⟩, .running, []) := by decide

/-- JP-1: `8000: 4C 34 12`, R229. -/
theorem test_jmp_absolute :
    seen (step { v0 with prg := [(0x0, 0x4C), (0x1, 0x34), (0x2, 0x12)] }) =
      some (⟨0x00, 0x00, 0x00, 0xFD, 0x1234, 0x24⟩, .running, []) := by decide

/-- JP-2: `8000: 6C FF 02`, R230. -/
theorem test_jmp_indirect_page_wrap :
    seen (step { v0 with ram := [(0x200, 0x90), (0x300, 0x85)], prg := [(0x0, 0x6C), (0x1, 0xFF), (0x2, 0x02)] }) =
      some (⟨0x00, 0x00, 0x00, 0xFD, 0x9000, 0x24⟩, .running, []) := by decide

/-- JP-5: `8000: 20 00 90`, R231. -/
theorem test_jsr_wraps_stack :
    seen (step { v0 with sp := 0x00, prg := [(0x0, 0x20), (0x2, 0x90)] }) =
      some (⟨0x00, 0x00, 0x00, 0xFE, 0x9000, 0x24⟩, .running, [(0x0100, 0x80), (0x01FF, 0x02)]) := by decide

/-- JP-7: `8000: 60`, R232. -/
theorem test_rts_wraps_stack_and_address :
    seen (step { v0 with sp := 0xFF, ram := [(0x100, 0xFF), (0x101, 0xFF)], prg := [(0x0, 0x60)] }) =
      some (⟨0x00, 0x00, 0x00, 0x01, 0x0000, 0x24⟩, .running, []) := by decide

/-- JP-8: `8000: 40`, R233. -/
theorem test_rti_pops_status_then_address :
    seen (step { v0 with sp := 0xFA, ram := [(0x1FB, 0xC3), (0x1FD, 0x90)], prg := [(0x0, 0x40)] }) =
      some (⟨0x00, 0x00, 0x00, 0xFD, 0x9000, 0xE3⟩, .running, []) := by decide

/-- SY-1: `8005: 00`, R234. -/
theorem test_brk_halts :
    seen (step { v0 with pc := 0x8005 }) =
      some (⟨0x00, 0x00, 0x00, 0xFD, 0x8006, 0x24⟩, .halted .brk, []) := by decide

/-- SY-2: `8000: 00`, R234. -/
theorem test_brk_sets_B_when_told :
    seen (step { v0 with
          config := { Config.default with brkSetsB := true } }) =
      some (⟨0x00, 0x00, 0x00, 0xFD, 0x8001, 0x34⟩, .halted .brk, []) := by decide

/-- SY-3: `8000: 02`, R264. -/
theorem test_kil_halts_with_flags_kept :
    seen (step { v0 with p := 0xE7, prg := [(0x0, 0x02)] }) =
      some (⟨0x00, 0x00, 0x00, 0xFD, 0x8001, 0xE7⟩, .halted .kil, []) := by decide

/-- FL-1: `8000: 18`, R235. -/
theorem test_clc :
    seen (step { v0 with p := 0x25, prg := [(0x0, 0x18)] }) =
      some (⟨0x00, 0x00, 0x00, 0xFD, 0x8001, 0x24⟩, .running, []) := by decide

/-- FL-2: `8000: 38`, R236. -/
theorem test_sec :
    seen (step { v0 with prg := [(0x0, 0x38)] }) =
      some (⟨0x00, 0x00, 0x00, 0xFD, 0x8001, 0x25⟩, .running, []) := by decide

/-- FL-3: `8000: 58`, R237. -/
theorem test_cli :
    seen (step { v0 with prg := [(0x0, 0x58)] }) =
      some (⟨0x00, 0x00, 0x00, 0xFD, 0x8001, 0x20⟩, .running, []) := by decide

/-- FL-4: `8000: 78`, R238. -/
theorem test_sei :
    seen (step { v0 with p := 0x20, prg := [(0x0, 0x78)] }) =
      some (⟨0x00, 0x00, 0x00, 0xFD, 0x8001, 0x24⟩, .running, []) := by decide

/-- FL-5: `8000: D8`, R239. -/
theorem test_cld :
    seen (step { v0 with p := 0x2C, prg := [(0x0, 0xD8)] }) =
      some (⟨0x00, 0x00, 0x00, 0xFD, 0x8001, 0x24⟩, .running, []) := by decide

/-- FL-6: `8000: F8`, R240. -/
theorem test_sed :
    seen (step { v0 with prg := [(0x0, 0xF8)] }) =
      some (⟨0x00, 0x00, 0x00, 0xFD, 0x8001, 0x2C⟩, .running, []) := by decide

/-- FL-7: `8000: B8`, R241. -/
theorem test_clv :
    seen (step { v0 with p := 0x64, prg := [(0x0, 0xB8)] }) =
      some (⟨0x00, 0x00, 0x00, 0xFD, 0x8001, 0x24⟩, .running, []) := by decide

/-- NP-1: `8000: EA`, R242. -/
theorem test_nop_changes_nothing :
    seen (step { v0 with a := 0x12, p := 0xE7, prg := [(0x0, 0xEA)] }) =
      some (⟨0x12, 0x00, 0x00, 0xFD, 0x8001, 0xE7⟩, .running, []) := by decide

/-- NP-6: `8000: 0C 00 20`, R263, R315. -/
theorem test_nop_absolute_reads :
    faulted (step { v0 with prg := [(0x0, 0x0C), (0x2, 0x20)] }) =
      some (.writeOnlyRead, ⟨0x8000, some 0x0C, 0x2000, some .dataRead⟩) := by decide

/-- UD-1: `8000: A7 10`, R265. -/
theorem test_lax_loads_both :
    seen (step { v0 with ram := [(0x10, 0x80)], prg := [(0x0, 0xA7), (0x1, 0x10)] }) =
      some (⟨0x80, 0x80, 0x00, 0xFD, 0x8002, 0xA4⟩, .running, []) := by decide

/-- UD-3: `8000: 87 10`, R266. -/
theorem test_sax_stores_and :
    seen (step { v0 with a := 0xF0, x := 0x3C, prg := [(0x0, 0x87), (0x1, 0x10)] }) =
      some (⟨0xF0, 0x3C, 0x00, 0xFD, 0x8002, 0x24⟩, .running, [(0x0010, 0x30)]) := by decide

/-- UD-6: `8000: C7 10`, R267. -/
theorem test_dcp_compares_with_decremented :
    seen (step { v0 with a := 0x40, prg := [(0x0, 0xC7), (0x1, 0x10)] }) =
      some (⟨0x40, 0x00, 0x00, 0xFD, 0x8002, 0x24⟩, .running, [(0x0010, 0xFF)]) := by decide

/-- UD-7: `8000: E7 10`, R268. -/
theorem test_isb_subtracts_incremented :
    seen (step { v0 with a := 0x10, p := 0x25, ram := [(0x10, 0x04)], prg := [(0x0, 0xE7), (0x1, 0x10)] }) =
      some (⟨0x0B, 0x00, 0x00, 0xFD, 0x8002, 0x25⟩, .running, [(0x0010, 0x05)]) := by decide

/-- UD-9: `8000: 07 10`, R269. -/
theorem test_slo :
    seen (step { v0 with a := 0x01, ram := [(0x10, 0x41)], prg := [(0x0, 0x07), (0x1, 0x10)] }) =
      some (⟨0x83, 0x00, 0x00, 0xFD, 0x8002, 0xA4⟩, .running, [(0x0010, 0x82)]) := by decide

/-- UD-11: `8000: 27 10`, R270. -/
theorem test_rla :
    seen (step { v0 with a := 0xFF, p := 0x25, ram := [(0x10, 0x80)], prg := [(0x0, 0x27), (0x1, 0x10)] }) =
      some (⟨0x01, 0x00, 0x00, 0xFD, 0x8002, 0x25⟩, .running, [(0x0010, 0x01)]) := by decide

/-- UD-12: `8000: 47 10`, R271. -/
theorem test_sre :
    seen (step { v0 with a := 0xFF, ram := [(0x10, 0x02)], prg := [(0x0, 0x47), (0x1, 0x10)] }) =
      some (⟨0xFE, 0x00, 0x00, 0xFD, 0x8002, 0xA4⟩, .running, [(0x0010, 0x01)]) := by decide

/-- UD-15: `8000: 67 10`, R272. -/
theorem test_rra_feeds_its_carry :
    seen (step { v0 with a := 0x7F, ram := [(0x10, 0x01)], prg := [(0x0, 0x67), (0x1, 0x10)] }) =
      some (⟨0x80, 0x00, 0x00, 0xFD, 0x8002, 0xE4⟩, .running, [(0x0010, 0x00)]) := by decide

/-- UD-16: `8000: 0B 81`, R273. -/
theorem test_anc_copies_N_to_C :
    seen (step { v0 with a := 0xFF, prg := [(0x0, 0x0B), (0x1, 0x81)] }) =
      some (⟨0x81, 0x00, 0x00, 0xFD, 0x8002, 0xA5⟩, .running, []) := by decide

/-- UD-18: `8000: 4B 03`, R274. -/
theorem test_alr :
    seen (step { v0 with a := 0xFF, prg := [(0x0, 0x4B), (0x1, 0x03)] }) =
      some (⟨0x01, 0x00, 0x00, 0xFD, 0x8002, 0x25⟩, .running, []) := by decide

/-- UD-22: `8000: 6B 80`, R275. -/
theorem test_arr_carry_and_overflow :
    seen (step { v0 with a := 0xFF, prg := [(0x0, 0x6B), (0x1, 0x80)] }) =
      some (⟨0x40, 0x00, 0x00, 0xFD, 0x8002, 0x65⟩, .running, []) := by decide

/-- UD-24: `8000: CB 10`, R276. -/
theorem test_axs_borrows_and_keeps_V :
    seen (step { v0 with a := 0xFF, x := 0x0F, p := 0x65, prg := [(0x0, 0xCB), (0x1, 0x10)] }) =
      some (⟨0xFF, 0xFF, 0x00, 0xFD, 0x8002, 0xE4⟩, .running, []) := by decide

/-- UD-25: `8000: EB 03`, R277. -/
theorem test_sbc_undocumented :
    seen (step { v0 with a := 0x05, p := 0x25, prg := [(0x0, 0xEB), (0x1, 0x03)] }) =
      some (⟨0x02, 0x00, 0x00, 0xFD, 0x8002, 0x25⟩, .running, []) := by decide

/-- UD-26: `8000: BB 00 02`, R278. -/
theorem test_las_writes_three_registers :
    seen (step { v0 with sp := 0xF0, ram := [(0x200, 0x3C)], prg := [(0x0, 0xBB), (0x2, 0x02)] }) =
      some (⟨0x30, 0x30, 0x00, 0x30, 0x8003, 0x24⟩, .running, []) := by decide

/-- UN-1: `8000: 8B F3`, R279. -/
theorem test_xaa_refused_by_default :
    refusedOp (step { v0 with x := 0x0F, prg := [(0x0, 0x8B), (0x1, 0xF3)] }) = some 0x8B := by decide

/-- UN-3: `8000: 8B F3`, R280. -/
theorem test_xaa_admitted :
    seen (step { v0 with
          x := 0x0F,
          prg := [(0x0, 0x8B), (0x1, 0xF3)],
          config := { Config.default with admitUnstable := true, xaaMagic := 0xFF } }) =
      some (⟨0x03, 0x0F, 0x00, 0xFD, 0x8002, 0x24⟩, .running, []) := by decide

/-- UN-5: `8000: AB 5A`, R281. -/
theorem test_lxa_admitted :
    seen (step { v0 with
          a := 0x0F,
          prg := [(0x0, 0xAB), (0x1, 0x5A)],
          config := { Config.default with admitUnstable := true, lxaMagic := 0x00 } }) =
      some (⟨0x0A, 0x0A, 0x00, 0xFD, 0x8002, 0x24⟩, .running, []) := by decide

/-- UN-7: `8000: 9F FF 02`, R282. -/
theorem test_sha_page_crossed :
    seen (step { v0 with
          a := 0xFF, x := 0xFF, y := 0x01,
          prg := [(0x0, 0x9F), (0x1, 0xFF), (0x2, 0x02)],
          config := { Config.default with admitUnstable := true } }) =
      some (⟨0xFF, 0xFF, 0x01, 0xFD, 0x8003, 0x24⟩, .running, [(0x0300, 0x03)]) := by decide

/-- UN-8: `8000: 9B 00 02`, R283. -/
theorem test_tas_writes_stack_pointer :
    seen (step { v0 with
          a := 0xF0, x := 0x3F,
          prg := [(0x0, 0x9B), (0x2, 0x02)],
          config := { Config.default with admitUnstable := true } }) =
      some (⟨0xF0, 0x3F, 0x00, 0x30, 0x8003, 0x24⟩, .running, [(0x0200, 0x00)]) := by decide

/-- UN-9: `8000: 9C 00 02`, R284. -/
theorem test_shy :
    seen (step { v0 with
          x := 0x01, y := 0xFF,
          prg := [(0x0, 0x9C), (0x2, 0x02)],
          config := { Config.default with admitUnstable := true } }) =
      some (⟨0x00, 0x01, 0xFF, 0xFD, 0x8003, 0x24⟩, .running, [(0x0201, 0x03)]) := by decide

/-- UN-10: `8000: 9E 00 04`, R285. -/
theorem test_shx :
    seen (step { v0 with
          x := 0x07, y := 0x01,
          prg := [(0x0, 0x9E), (0x2, 0x04)],
          config := { Config.default with admitUnstable := true } }) =
      some (⟨0x00, 0x07, 0x01, 0xFD, 0x8003, 0x24⟩, .running, [(0x0401, 0x05)]) := by decide

/-- FD-1: `2000: EA`, R95, R315. -/
theorem test_fetch_from_write_only_register :
    faulted (step { v0 with pc := 0x2000 }) =
      some (.writeOnlyRead, ⟨0x2000, none, 0x2000, some .fetch⟩) := by decide

/-- FD-2: `5000: (no bytes placed)`, R95, R58. -/
theorem test_fetch_from_unmapped_is_brk :
    seen (step { v0 with pc := 0x5000 }) =
      some (⟨0x00, 0x00, 0x00, 0xFD, 0x5001, 0x24⟩, .halted .brk, []) := by decide

/-- FD-3: `0800: E8`, R95, R53. -/
theorem test_fetch_through_ram_mirror :
    seen (step { v0 with pc := 0x0800, ram := [(0x0, 0xE8)] }) =
      some (⟨0x00, 0x01, 0x00, 0xFD, 0x0801, 0x24⟩, .running, []) := by decide

/-! ### Reset, event order, the interface (spec/95_test_vectors.md sections 3 and 4) -/

/-- RS-2: a 16 KiB image with its vector at 0x3FFC. -/
theorem test_reset_vector_of_16_kib_image :
    hostReset { v0 with status := .constructed, prgSize := .kib16, prg := [(0x3FFC, 0x34), (0x3FFD, 0xC2)] } =
      .next { v0 with
        status := .ready, prgSize := .kib16, prg := [(0x3FFC, 0x34), (0x3FFD, 0xC2)], pc := 0xC234
        history :=
          [{ kind := .vectorRead, addr := 0xFFFC, value := some 0x34, call := none },
           { kind := .vectorRead, addr := 0xFFFD, value := some 0xC2, call := none }] } := by rfl

/-- EV-1: pointer low then high, then data. -/
theorem test_events_of_lda_indirect_Y :
    events (step { v0 with y := 0x02, ram := [(0x11, 0x03), (0x302, 0x9C)], prg := [(0x0, 0xB1), (0x1, 0x10)] }) =
      [(.fetch, 0x8000, some 0xB1), (.operand, 0x8001, some 0x10), (.pointer, 0x0010, some 0x00),
       (.pointer, 0x0011, some 0x03), (.dataRead, 0x0302, some 0x9C)] := by decide

/-- EV-3: JSR reads its target before it pushes. -/
theorem test_events_of_jsr :
    events (step { v0 with prg := [(0x0, 0x20), (0x2, 0x90)] }) =
      [(.fetch, 0x8000, some 0x20), (.operand, 0x8001, some 0x00), (.operand, 0x8002, some 0x90),
       (.stackWrite, 0x01FD, some 0x80), (.stackWrite, 0x01FC, some 0x02)] := by decide

/-- EV-6: a store does not read, and there is no dummy read. -/
theorem test_events_of_sta_absolute_X :
    events (step { v0 with a := 0x11, x := 0x01, prg := [(0x0, 0x9D), (0x1, 0xFF), (0x2, 0x01)] }) =
      [(.fetch, 0x8000, some 0x9D), (.operand, 0x8001, some 0xFF), (.operand, 0x8002, some 0x01),
       (.dataWrite, 0x0200, some 0x11)] := by decide

/-- A placed word runs as the first instruction after reset: LDA #$80. -/
theorem test_withFetchWord_runs_first :
    seen (step (State.reset.withFetchWord 16 0x80A9)) =
      some (⟨0x80, 0x00, 0x00, 0xFD, 0x0002, 0xA4⟩, .running, []) := by decide

/-- Two steps of the machine: SRC-2, `LDA #$01; ADC #$FF`. -/
theorem test_core_runs_two_steps :
    seen (Sys2Proof.core.run 2 { v0 with prg := [(0x0, 0xA9), (0x1, 0x01), (0x2, 0x69), (0x3, 0xFF)] }) =
      some (⟨0x00, 0x00, 0x00, 0xFD, 0x8004, 0x27⟩, .running, []) := by rfl

/-! ### Witnesses: the hypotheses of every statement can be met -/

theorem witness_ResetWritesRegistersAndVector :
    ({ v0 with status := .constructed } : State).status = .constructed ∧
      ({ v0 with status := .ready } : State).status = .ready ∧
      ∃ r, ({ v0 with status := .halted .kil } : State).status = .halted r := ⟨rfl, rfl, .kil, rfl⟩

theorem witness_RunStatusAdmitsRunsAndSteps :
    (∃ r, ({ v0 with status := .halted .brk } : State).status = .halted r) ∧
      (({ v0 with status := .constructed } : State).status ≠ .ready ∧
        ∀ r, ({ v0 with status := .constructed } : State).status ≠ .halted r) ∧
      ({ v0 with status := .refused 0x8B } : State).status ≠ .running := by
  refine ⟨⟨.brk, rfl⟩, ⟨by decide, fun r => ?_⟩, by decide⟩
  intro h; cases h

/-- BRK at once: the run from the reset state ends normally; a run on a fatal fetch ends fatally. -/
theorem witness_RunEndsInAtMostOneWay :
    State.reset.status = .running ∧ (∃ t, EndsNormally State.reset t) ∧ (∃ f, EndsFatally { v0 with pc := 0x2000 } f) ∧
      step { v0 with prg := [(0x0, 0x8B)] } = .refused (.unstableOpcode 0x8B) ∧
      EndsRefused { v0 with prg := [(0x0, 0x8B)] } 0x8B :=
  ⟨rfl, ⟨_, 1, .brk, rfl, rfl⟩, ⟨_, 1, rfl⟩, rfl, ⟨1, rfl⟩⟩

/-- One instruction of each length, the last across the end of the address space. -/
theorem witness_StepRunsDecodedInstruction :
    v0.status = .running ∧ InstrAtPc .brk v0 ∧ admitted .brk v0 = true ∧
      InstrAtPc (.ldaImm 0x80) { v0 with prg := [(0x0, 0xA9), (0x1, 0x80)] } ∧
      InstrAtPc (.ldaAbs 0x1234) { v0 with pc := 0xFFFF, ram := [(0x0, 0x34), (0x1, 0x12)], prg := [(0x7FFF, 0xAD)] } := by
  refine ⟨rfl, rfl, rfl, ⟨rfl, rfl⟩, rfl, rfl, rfl⟩

/-- Also with the opcode read from a PPU register. -/
theorem witness_FetchReadsEncodingInOrder :
    (∃ t, fetch { v0 with prg := [(0x0, 0xA9), (0x1, 0x80)] } = .decoded (.ldaImm 0x80) t) ∧
      ∃ t, fetch { v0 with pc := 0x2002, ppuScript := [.done 0xEA] } = .decoded .nopEA t := ⟨⟨_, rfl⟩, ⟨_, rfl⟩⟩

theorem witness_UnstableOpcodeRefusedAtDecode :
    v0.status = .running ∧ ReadsAt { v0 with prg := [(0x0, 0x8B)] } 0x8000 0x8B [] ∧
      (0x8B : Byte) ∈ ([0x8B, 0xAB, 0x93, 0x9F, 0x9B, 0x9C, 0x9E] : List Byte) ∧ v0.config.admitUnstable = false :=
  ⟨rfl, ⟨rfl, rfl⟩, by decide, rfl⟩

/-- The opcode fetch, and the first operand byte of each kind, at the first PPU register. -/
theorem witness_FetchFaultsNameTheAccess :
    ReadStops { v0 with pc := 0x2000 } 0x2000 .writeOnlyRead ∧
      (∀ op, op = 0xA9 ∨ op = 0xA5 ∨ op = 0xAD →
        ReadsAt { v0 with pc := 0x1FFF, ram := [(0x7FF, op)] } 0x1FFF op [] ∧ isUnstable op = false ∧
          (form op).isSome = true ∧ ReadStops { v0 with pc := 0x1FFF, ram := [(0x7FF, op)] } 0x2000 .writeOnlyRead) := by
  refine ⟨.inl ⟨rfl, rfl⟩, ?_⟩
  rintro op (rfl | rfl | rfl) <;>
    exact ⟨⟨rfl, rfl⟩, rfl, rfl, readStops_of_writeOnly (r := .control) rfl rfl⟩

/-- The second operand byte at the first PPU register. -/
theorem witness_FetchFaultsNameTheAccess_second :
    let s : State := { v0 with pc := 0x1FFE, ram := [(0x7FE, 0xAD), (0x7FF, 0x34)] }
    ReadsAt s 0x1FFE 0xAD [] ∧ form 0xAD = some (.word .ldaAbs) ∧ isUnstable 0xAD = false ∧
      ReadsAt (s.afterReadAs .fetch 0x1FFE 0xAD []) 0x1FFF 0x34 [] ∧
      ReadStops ((s.afterReadAs .fetch 0x1FFE 0xAD []).afterReadAs .operand 0x1FFF 0x34 []) 0x2000 .writeOnlyRead :=
  ⟨⟨rfl, rfl⟩, rfl, rfl, ⟨rfl, rfl⟩, readStops_of_writeOnly (r := .control) rfl rfl⟩

theorem witness_DecodeOfEncodeIsIdentity : (Instr.jsr 0x9000).wellFormed = true := rfl

theorem witness_EncodeOfDecodeIsIdentity : decode [0x20, 0x00, 0x90, 0xFF] = .instr (.jsr 0x9000) [0xFF] := by decide

theorem witness_UnreachableFatalKindsAreNeverRaised : ∃ f, step { v0 with pc := 0x2000 } = .fault f := ⟨_, rfl⟩

/-- Every row of the decoding table at its first and last address, and an answer and a fault of the PPU. -/
theorem witness_BusReadsFollowTheTable :
    (0x1FFF#16).toNat < 0x2000 ∧ 0x2000 ≤ (0x2000#16).toNat ∧ (0x3FFF#16).toNat < 0x4000 ∧
      0x4000 ≤ (0x4000#16).toNat ∧ (0x7FFF#16).toNat < 0x8000 ∧ 0x8000 ≤ (0x8000#16).toNat ∧
      (0x2000#16 &&& 0x2007) ∈ ([0x2000, 0x2001, 0x2003, 0x2005, 0x2006] : List Addr) ∧
      (0x3FFA#16 &&& 0x2007) = 0x2002 ∧ (0x3FFC#16 &&& 0x2007) = 0x2004 ∧ (0x3FFF#16 &&& 0x2007) = 0x2007 ∧
      ({ v0 with ppuScript := [.done 0x80] } : State).ppuAnswer .readStatus = .done 0x80 ∧
      ({ v0 with ppuScript := [.fault] } : State).ppuAnswer .readStatus = .fault := by decide

theorem witness_BusWritesFollowTheTable :
    (0x3FF8#16 &&& 0x2007) = 0x2000 ∧ (0x3FF9#16 &&& 0x2007) = 0x2001 ∧ (0x3FFA#16 &&& 0x2007) = 0x2002 ∧
      (0x3FFB#16 &&& 0x2007) = 0x2003 ∧ (0x3FFC#16 &&& 0x2007) = 0x2004 ∧ (0x3FFD#16 &&& 0x2007) = 0x2005 ∧
      (0x3FFE#16 &&& 0x2007) = 0x2006 ∧ (0x3FFF#16 &&& 0x2007) = 0x2007 ∧
      ({ v0 with ppuScript := [.done 0x00] } : State).ppuAnswer (.writeControl 0x90) = .done 0x00 ∧
      ({ v0 with ppuScript := [.fault] } : State).ppuAnswer (.writeData 0x90) = .fault := by decide

theorem witness_MirrorsDecodeAlike :
    (0x0000#16).toNat < 0x0800 ∧ (0x07FF#16).toNat < 0x0800 ∧ 0x2000 ≤ (0x3FFF#16).toNat ∧ (0x3FFF#16).toNat < 0x4000 ∧
      0x8000 ≤ (0x8000#16).toNat ∧ (0xBFFF#16).toNat < 0xC000 := by decide

/-- A write to RAM, seen in a mirror and not elsewhere; SRC-6. -/
theorem witness_WriteReadsBackThroughMirrors :
    Memory.wf v0.ram = true ∧ (∃ t, write8 .dataWrite 0x0000 0x5A v0 = .ok t) ∧ sameRamByte v0.prgSize 0x0000 0x1800 = true ∧
      sameRamByte v0.prgSize 0x0000 0x0001 = false := ⟨rfl, ⟨_, rfl⟩, by decide, by decide⟩

theorem witness_StackRoundTrip : Memory.wf ({ v0 with sp := 0x00 } : State).ram = true := rfl

theorem witness_SetZNWritesZAndNOnly : Flag.C ≠ .Z ∧ Flag.C ≠ .N := by decide

/-- What a witness of a reading statement shows: an instruction of the mnemonic whose operand reads as a byte, and one whose
read is fatal. -/
def ReadingWitness (m : Mnemonic) (i j : Instr) : Prop :=
  i.mnemonic = m ∧ OperandReads i.operand v0 0x00 [] ∧ j.mnemonic = m ∧ OperandStops j.operand v0 .writeOnlyRead

/-- The same for a mnemonic of immediate operands alone, whose read is never fatal. -/
def ImmediateWitness (m : Mnemonic) (i : Instr) : Prop := i.mnemonic = m ∧ OperandReads i.operand v0 0x80 []

theorem stops {o : Operand} {r : PpuReg} (h : busDecode .kib32 (effectiveAddr o v0) = .ppu r)
    (hr : r.readCall = none) : OperandStops o v0 .writeOnlyRead := by
  have hs : ReadStops (v0.afterPointers o) (effectiveAddr o v0) .writeOnlyRead :=
    readStops_of_writeOnly (by rw [State.afterPointers_prgSize]; exact h) hr
  cases o <;> exact hs

theorem witness_LoadsWriteRegisterAndZN :
    ReadingWitness .LDA (.ldaIndY 0x10) (.ldaAbs 0x2000) ∧ ReadingWitness .LDX (.ldxZpY 0xFF) (.ldxAbs 0x2001) ∧
      ReadingWitness .LDY (.ldyAbsX 0xFFFF) (.ldyAbs 0x3FFE) :=
  ⟨⟨rfl, ⟨rfl, rfl⟩, rfl, stops rfl rfl⟩, ⟨rfl, ⟨rfl, rfl⟩, rfl, stops rfl rfl⟩,
    ⟨rfl, ⟨rfl, rfl⟩, rfl, stops rfl rfl⟩⟩

theorem witness_AddAndSubtractThroughTheAdder :
    ReadingWitness .ADC (.adcZp 0x10) (.adcAbs 0x2000) ∧ ReadingWitness .SBC (.sbcZp 0x10) (.sbcAbs 0x2000) ∧
      ImmediateWitness .SBC (.sbcEBImm 0x80) :=
  ⟨⟨rfl, ⟨rfl, rfl⟩, rfl, stops rfl rfl⟩, ⟨rfl, ⟨rfl, rfl⟩, rfl, stops rfl rfl⟩, rfl, rfl, rfl⟩

theorem witness_LogicWritesAccumulatorAndZN :
    ReadingWitness .AND (.andZp 0x10) (.andAbs 0x2000) ∧ ReadingWitness .ORA (.oraZp 0x10) (.oraAbs 0x2000) ∧
      ReadingWitness .EOR (.eorZp 0x10) (.eorAbs 0x2000) :=
  ⟨⟨rfl, ⟨rfl, rfl⟩, rfl, stops rfl rfl⟩, ⟨rfl, ⟨rfl, rfl⟩, rfl, stops rfl rfl⟩,
    ⟨rfl, ⟨rfl, rfl⟩, rfl, stops rfl rfl⟩⟩

theorem witness_ComparesAndBitWriteFlagsOnly :
    ReadingWitness .CMP (.cmpZp 0x10) (.cmpAbs 0x2000) ∧ ReadingWitness .CPX (.cpxZp 0x10) (.cpxAbs 0x2000) ∧
      ReadingWitness .CPY (.cpyZp 0x10) (.cpyAbs 0x2000) ∧ ReadingWitness .BIT (.bitZp 0x10) (.bitAbs 0x2000) :=
  ⟨⟨rfl, ⟨rfl, rfl⟩, rfl, stops rfl rfl⟩, ⟨rfl, ⟨rfl, rfl⟩, rfl, stops rfl rfl⟩,
    ⟨rfl, ⟨rfl, rfl⟩, rfl, stops rfl rfl⟩, ⟨rfl, ⟨rfl, rfl⟩, rfl, stops rfl rfl⟩⟩

theorem witness_UndocumentedReadCombinations :
    ReadingWitness .LAX (.laxZp 0x10) (.laxAbs 0x2000) ∧ ImmediateWitness .ANC (.anc2BImm 0x80) ∧
      ImmediateWitness .ALR (.alrImm 0x80) ∧ ImmediateWitness .AXS (.axsImm 0x80) ∧
      ReadingWitness .LAS (.lasAbsY 0x0200) (.lasAbsY 0x2000) :=
  ⟨⟨rfl, ⟨rfl, rfl⟩, rfl, stops rfl rfl⟩, ⟨rfl, rfl, rfl⟩, ⟨rfl, rfl, rfl⟩, ⟨rfl, rfl, rfl⟩,
    ⟨rfl, ⟨rfl, rfl⟩, rfl, stops rfl rfl⟩⟩

theorem witness_ArrRotatesWithItsOwnCarryAndOverflow : ImmediateWitness .ARR (.arrImm 0x80) := ⟨rfl, rfl, rfl⟩

theorem witness_ReadingNopsReadAndDiscard :
    ReadingWitness .NOP (.nop04Zp 0x10) (.nop0CAbs 0x2000) ∧ (Instr.nop04Zp 0x10).operand ≠ .implied :=
  ⟨⟨rfl, ⟨rfl, rfl⟩, rfl, stops rfl rfl⟩, by decide⟩

/-- What a witness of a storing statement shows: a store to RAM, and a store to PRG, which is fatal. -/
def StoringWitness (m : Mnemonic) (i j : Instr) (v : Byte) : Prop :=
  i.mnemonic = m ∧ (∃ ram', WritesAt (v0.afterPointers i.operand) (effectiveAddr i.operand v0) v ram' []) ∧
    j.mnemonic = m ∧ WriteStops (v0.afterPointers j.operand) (effectiveAddr j.operand v0) v .romWrite

theorem witness_StoresWriteTheirRegister :
    StoringWitness .STA (.staIndX 0xFF) (.staAbs 0x8000) 0x00 ∧ StoringWitness .STX (.stxZpY 0xFF) (.stxAbs 0xFFFF) 0x00 ∧
      StoringWitness .STY (.styZpX 0xFF) (.styAbs 0x8000) 0x00 ∧ StoringWitness .SAX (.saxIndX 0xFF) (.saxAbs 0x8000) 0x00 :=
  ⟨⟨rfl, ⟨_, rfl, rfl⟩, rfl, rfl⟩, ⟨rfl, ⟨_, rfl, rfl⟩, rfl, rfl⟩, ⟨rfl, ⟨_, rfl, rfl⟩, rfl, rfl⟩,
    ⟨rfl, ⟨_, rfl, rfl⟩, rfl, rfl⟩⟩

/-- What a witness of a modifying statement shows: a byte of RAM modified, a write to PRG and a read of a PPU register, both
fatal. The instruction is given by its operand address. -/
def ModifyingWitness (m : Mnemonic) (i : Addr → Instr) (value : Byte) : Prop :=
  (∀ a, (i a).mnemonic = m ∧ (i a).operand = .absolute a) ∧
    ReadsAt v0 0x0200 0x00 [] ∧ (∃ ram', WritesAt (v0.afterRead 0x0200 0x00 []) 0x0200 value ram' []) ∧
    ReadsAt v0 0x8000 0x00 [] ∧ WriteStops (v0.afterRead 0x8000 0x00 []) 0x8000 value .romWrite ∧
    ReadStops v0 0x2000 .writeOnlyRead

theorem witness_modifying (m : Mnemonic) (i : Addr → Instr) (value : Byte)
    (h : ∀ a, (i a).mnemonic = m ∧ (i a).operand = .absolute a) : ModifyingWitness m i value :=
  ⟨h, ⟨rfl, rfl⟩, ⟨_, rfl, rfl⟩, ⟨rfl, rfl⟩, rfl, readStops_of_writeOnly (r := .control) rfl rfl⟩

theorem witness_IncrementAndDecrementMemory :
    ModifyingWitness .INC .incAbs 0x01 ∧ ModifyingWitness .DEC .decAbs 0xFF :=
  ⟨witness_modifying _ _ _ (fun _ => ⟨rfl, rfl⟩), witness_modifying _ _ _ (fun _ => ⟨rfl, rfl⟩)⟩

theorem witness_ShiftsOfAccumulatorAndMemory :
    Instr.aslA.operand = .accumulator ∧ Instr.rolA.mnemonic ∈ ([.ASL, .LSR, .ROL, .ROR] : List Mnemonic) ∧
      ModifyingWitness .ASL .aslAbs 0x00 ∧ ModifyingWitness .LSR .lsrAbs 0x00 ∧ ModifyingWitness .ROL .rolAbs 0x00 ∧
      ModifyingWitness .ROR .rorAbs 0x00 :=
  ⟨rfl, by decide, witness_modifying _ _ _ (fun _ => ⟨rfl, rfl⟩), witness_modifying _ _ _ (fun _ => ⟨rfl, rfl⟩),
    witness_modifying _ _ _ (fun _ => ⟨rfl, rfl⟩), witness_modifying _ _ _ (fun _ => ⟨rfl, rfl⟩)⟩

theorem witness_ModifyCombinationsCompose :
    ModifyingWitness .ISB .isbAbs 0x01 ∧ ModifyingWitness .SLO .sloAbs 0x00 ∧ ModifyingWitness .RLA .rlaAbs 0x00 ∧
      ModifyingWitness .SRE .sreAbs 0x00 ∧ ModifyingWitness .RRA .rraAbs 0x00 :=
  ⟨witness_modifying _ _ _ (fun _ => ⟨rfl, rfl⟩), witness_modifying _ _ _ (fun _ => ⟨rfl, rfl⟩),
    witness_modifying _ _ _ (fun _ => ⟨rfl, rfl⟩), witness_modifying _ _ _ (fun _ => ⟨rfl, rfl⟩),
    witness_modifying _ _ _ (fun _ => ⟨rfl, rfl⟩)⟩

theorem witness_DcpComparesWithDecrementedByte : ModifyingWitness .DCP .dcpAbs 0xFF :=
  witness_modifying _ _ _ (fun _ => ⟨rfl, rfl⟩)

theorem witness_FlagInstructionsAndNops :
    Instr.nopEA.mnemonic = .NOP ∧ Instr.nopEA.operand = .implied ∧ Instr.nop1A.operand = .implied := ⟨rfl, rfl, rfl⟩

theorem witness_PhpPushesStatusAndPlpLoadsIt :
    Memory.wf v0.ram = true ∧ v0.flag .B = false ∧ v0.flag .B2 = true ∧
      ∃ t u, exec .php v0 = .next t ∧ exec .plp t = .next u := ⟨rfl, by decide, by decide, _, _, rfl, rfl⟩

/-- A pointer in RAM, one on a PPU register, and one whose high byte alone is on a PPU register. -/
theorem witness_JumpsAndThePageWrapQuirk :
    (0x02FF#16).toNat % 256 = 0xFF ∧ ReadsAt v0 0x02FF 0x00 [] ∧ ReadStops v0 0x2000 .writeOnlyRead ∧
      ReadsAt v0 0x1FFE 0x00 [] ∧ ReadsAt { v0 with ppuScript := [.done 0x00] } 0x2002 0x00 [] ∧
      ReadStops v0 0x2003 .writeOnlyRead :=
  ⟨by decide, ⟨rfl, rfl⟩, readStops_of_writeOnly (r := .control) rfl rfl, ⟨rfl, rfl⟩,
    readsAt_of_answer (r := .status) rfl rfl rfl, readStops_of_writeOnly (r := .oamAddress) rfl rfl⟩

theorem witness_RtsReturnsPastJsr :
    Memory.wf v0.ram = true ∧ ∃ t u : State, exec (.jsr 0x9000) v0 = .next t ∧ u.sp = t.sp ∧ u.ram = t.ram :=
  ⟨rfl, _, _, rfl, rfl, rfl⟩

theorem witness_KilHaltsAndChangesNothing : Instr.kil02.mnemonic = .KIL ∧ Instr.kilF2.mnemonic = .KIL := ⟨rfl, rfl⟩

/-- A machine that admits the unstable opcodes. -/
def vAdmitted : State := { v0 with config := { Config.default with admitUnstable := true } }

theorem witness_AdmittedXaaAndLxa :
    vAdmitted.config.admitUnstable = true ∧ (Instr.xaaImm 0xF3).mnemonic = .XAA ∧ (Instr.lxaImm 0x5A).mnemonic = .LXA ∧
      OperandReads (Instr.xaaImm 0xF3).operand vAdmitted 0xF3 [] := ⟨rfl, rfl, rfl, rfl, rfl⟩

/-- A store with a page crossed and one without, and a store to PRG. -/
theorem witness_AdmittedHighStores :
    isHighStore (Instr.shaIndY 0x10).mnemonic = true ∧ isHighStore (Instr.tasAbsY 0x0200).mnemonic = true ∧
      isHighStore (Instr.shyAbsX 0x0200).mnemonic = true ∧ isHighStore (Instr.shxAbsY 0x0200).mnemonic = true ∧
      (∃ ram', WritesAt vAdmitted 0x0200 0x00 ram' []) ∧ WriteStops vAdmitted 0x8000 0x00 .romWrite ∧
      hi8 0x02FF ≠ hi8 (0x02FF + 0x01) := ⟨rfl, rfl, rfl, rfl, ⟨_, rfl, rfl⟩, rfl, by decide⟩

theorem witness_OnlyUnstableMeaningsRefuse :
    isUnstable (Instr.lxaImm 0x5A).opcode = true ∧ v0.config.admitUnstable = false ∧
      ∃ e, exec (.lxaImm 0x5A) v0 = .refused e := ⟨rfl, rfl, _, rfl⟩

theorem witness_FatalRecordNamesTheInstruction : ∃ f, exec (.incAbs 0x8000) v0 = .fault f := ⟨_, rfl⟩

theorem witness_GenericAdvancePastOperand :
    (∃ t, exec (.ldaAbs 0xFFFF) v0 = .next t) ∧ setsPc (Instr.ldaAbs 0xFFFF).mnemonic = false ∧
      ∃ t, exec .brk v0 = .next t := ⟨⟨_, rfl⟩, rfl, ⟨_, rfl⟩⟩

theorem witness_NonStoringLeaveMemory :
    (∃ t, exec (.ldaAbs 0x0200) v0 = .next t) ∧ isStoring .LDA = false ∧ isModifying .LDA = false ∧
      Mnemonic.LDA ∉ ([.PHA, .PHP, .JSR] : List Mnemonic) ∧ (∃ t, exec .aslA v0 = .next t) ∧
      Instr.aslA.operand = .accumulator := ⟨⟨_, rfl⟩, rfl, rfl, by decide, ⟨_, rfl⟩, rfl⟩

/-- A store, a modification, a high store, the pushes and JSR, each with a byte that stays. -/
theorem witness_StoringLeavesOtherBytes :
    (∃ t, exec (.staAbs 0x0200) v0 = .next t) ∧ (∃ t, exec (.incAbs 0x0200) v0 = .next t) ∧
      (∃ u, resolve (.absolute 0x0200) v0 = .ok (0x0200, u)) ∧ sameRamByte v0.prgSize 0x0200 0x0201 = false ∧
      (∃ t, exec (.shaAbsY 0x0200) vAdmitted = .next t) ∧ (∃ u, resolveBase (.absoluteY 0x0200) vAdmitted = .ok (0x0200, u)) ∧
      (∃ t, exec .pha v0 = .next t) ∧ (∃ t, exec .php v0 = .next t) ∧ (∃ t, exec (.jsr 0x9000) v0 = .next t) ∧
      sameRamByte v0.prgSize (stackAddr v0.sp) 0x0200 = false ∧ sameRamByte v0.prgSize (stackAddr (v0.sp - 1)) 0x0200 = false :=
  ⟨⟨_, rfl⟩, ⟨_, rfl⟩, ⟨_, rfl⟩, by decide, ⟨_, rfl⟩, ⟨_, rfl⟩, ⟨_, rfl⟩, ⟨_, rfl⟩, ⟨_, rfl⟩, by decide, by decide⟩

/-- A NOP is in none of the lists of writers. -/
theorem witness_RegistersWrittenOnlyByNamedInstructions :
    (∃ t, exec (.nop04Zp 0x10) v0 = .next t) ∧ (Instr.nop04Zp 0x10).mnemonic = .NOP ∧
      (Instr.nop04Zp 0x10).operand ≠ .accumulator := ⟨⟨_, rfl⟩, rfl, by decide⟩

theorem witness_FlagsWrittenOnlyByNamedInstructions : ∃ t, exec .nopEA v0 = .next t := ⟨_, rfl⟩

theorem witness_BodyAccessesInOrder :
    (∃ t, exec (.incAbs 0x0200) v0 = .next t) ∧ (∃ t, exec (.shaIndY 0x10) vAdmitted = .next t) := ⟨⟨_, rfl⟩, ⟨_, rfl⟩⟩

theorem witness_DecimalAndInterruptFlagsGateNothing :
    (Instr.adcImm 0x01).mnemonic ≠ .PHP ∧ Mnemonic.ADC ∉ ([.PLP, .RTI, .CLD, .SED] : List Mnemonic) ∧
      Mnemonic.RTI ∈ ([.PLP, .RTI, .CLI, .SEI] : List Mnemonic) := by decide

theorem witness_StepKeepsMemoryCanonical :
    ({ v0 with ram := [(0x10, 0x01)], prg := [(0x0, 0xE6), (0x1, 0x10)] } : State).memoryOk = true ∧
      ∃ t, step { v0 with ram := [(0x10, 0x01)], prg := [(0x0, 0xE6), (0x1, 0x10)] } = .next t := ⟨by decide, _, rfl⟩

/-- Halted on BRK with `BRK_SETS_B`, so with B set. -/
def vHaltedOnBrk : State :=
  { v0 with p := 0x34, status := .halted .brk, config := { Config.default with brkSetsB := true } }

/-- Also the start of a run resumed after a halt on BRK that set B, where only the second invariant holds (rule R346). -/
theorem witness_StepKeepsStatusBits :
    v0.statusBitsOk = true ∧ (∃ t, step v0 = .next t) ∧ vHaltedOnBrk.statusBitsOk = true ∧
      vHaltedOnBrk.breakBitOk = true ∧
      (∃ t, startRun vHaltedOnBrk = .next t ∧ t.statusBitsOk = false ∧ t.breakBitOk = true) ∧
      ∃ t, hostReset vHaltedOnBrk = .next t :=
  ⟨by decide, ⟨_, rfl⟩, by decide, by decide, ⟨_, rfl, by decide, by decide⟩, ⟨_, rfl⟩⟩

end Sys2Proof.Tests
end

section
/-! SUPPORT. What bus accesses alone can do to a state, and that each operation that is made of them does no more. -/

namespace Sys2Proof.Machine

/-! ### The state after bus accesses -/

theorem busDecode_ram_lt {z : PrgSize} {addr : Addr} {i : Nat} (h : busDecode z addr = .ram i) : i < ramLength := by
  have hm : (addr &&& 0x07FF).toNat ≤ 0x07FF := by
    rw [BitVec.toNat_and]
    exact Nat.and_le_right
  unfold busDecode at h
  split at h
  · cases h
    exact Nat.lt_succ_of_le hm
  · split at h
    · cases h
    · split at h <;> cases h

theorem State.memoryOk_set {s : State} (h : s.memoryOk = true) {i : Nat} (hi : i < ramLength) (v : Byte) :
    State.memoryOk { s with ram := Memory.set s.ram i v } = true := by
  simp only [State.memoryOk, Bool.and_eq_true] at h ⊢
  obtain ⟨⟨⟨hwf, hbelow⟩, hprg⟩, hsize⟩ := h
  exact ⟨⟨⟨Memory.wf_set hwf i v, Memory.below_set hbelow hi v⟩, hprg⟩, hsize⟩

/-- `Accessed s t`: `t` is `s` after some bus accesses. They write RAM, keeping it canonical, append to the history (rule R74)
and use up ready answers of the oracle from the front (assumption log 9), and do nothing else. -/
inductive Accessed (s : State) : State → Prop where
  | intro {ram : Memory} {history : List BusEvent} {script : List PpuAnswer}
      (hram : s.memoryOk = true → State.memoryOk { s with ram := ram } = true)
      (hhistory : s.history <+: history) (hscript : script <:+ s.ppuScript) :
      Accessed s { s with ram := ram, history := history, ppuScript := script }

namespace Accessed

theorem refl (s : State) : Accessed s s := .intro id (List.prefix_refl _) (List.suffix_refl _)

theorem trans {s t u : State} (h : Accessed s t) (h' : Accessed t u) : Accessed s u := by
  obtain ⟨hram, hhistory, hscript⟩ := h
  obtain ⟨hram', hhistory', hscript'⟩ := h'
  exact .intro (hram' ∘ hram) (hhistory.trans hhistory') (hscript'.trans hscript)

end Accessed

/-! ### The bus -/

theorem accessed_of_read8 {k : AccessKind} {addr : Addr} {s t : State} {m : Byte} (h : read8 k addr s = .ok (m, t)) :
    Accessed s t := by
  obtain ⟨hr, ht⟩ := read8_inv h
  have hq : t.ppuScript <:+ s.ppuScript := by
    unfold ReadsAt at hr
    split at hr
    · exact hr.2 ▸ List.suffix_refl _
    · exact hr.2 ▸ List.suffix_refl _
    · exact hr.2 ▸ List.suffix_refl _
    · obtain ⟨_, _, _, hq⟩ := hr
      exact hq ▸ List.tail_suffix _
  rw [ht]
  exact .intro id (List.prefix_append _ _) hq

theorem accessed_of_write8 {k : AccessKind} {addr : Addr} {s t : State} {v : Byte} (h : write8 k addr v s = .ok t) :
    Accessed s t := by
  obtain ⟨hw, ht⟩ := write8_inv h
  have hmem : (s.memoryOk = true → State.memoryOk { s with ram := t.ram } = true) ∧ t.ppuScript <:+ s.ppuScript := by
    unfold WritesAt at hw
    split at hw
    · rename_i i hd
      obtain ⟨hram, hq⟩ := hw
      exact ⟨fun hs => hram ▸ State.memoryOk_set hs (busDecode_ram_lt hd) v, hq ▸ List.suffix_refl _⟩
    · exact hw.elim
    · obtain ⟨hram, hq⟩ := hw
      exact ⟨fun hs => hram ▸ hs, hq ▸ List.suffix_refl _⟩
    · obtain ⟨hram, _, _, _, _, hq⟩ := hw
      exact ⟨fun hs => hram ▸ hs, hq ▸ List.tail_suffix _⟩
  rw [ht]
  exact .intro hmem.1 (List.prefix_append _ _) hmem.2

theorem exists_of_bind_ok {ε α β : Type} {x : Except ε α} {f : α → Except ε β} {r : β} (h : (x >>= f) = .ok r) :
    ∃ a, x = .ok a ∧ f a = .ok r := by
  cases x with
  | error e => cases h
  | ok a => exact ⟨a, rfl, h⟩

theorem accessed_of_read16 {k : AccessKind} {addr v : Addr} {s t : State} (h : read16 k addr s = .ok (v, t)) :
    Accessed s t := by
  obtain ⟨⟨lo, s1⟩, h1, h⟩ := exists_of_bind_ok h
  obtain ⟨⟨hi, s2⟩, h2, h⟩ := exists_of_bind_ok h
  cases h
  exact (accessed_of_read8 h1).trans (accessed_of_read8 h2)

/-! ### The stack -/

theorem accessed_of_push8 {v : Byte} {s t : State} (h : push8 v s = .ok t) : Accessed { s with sp := s.sp - 1 } t := by
  obtain ⟨u, h1, h⟩ := exists_of_bind_ok h
  have hu := accessed_of_write8 h1
  cases h
  obtain ⟨hram, hhistory, hscript⟩ := hu
  exact .intro hram hhistory hscript

theorem accessed_of_pop8 {m : Byte} {s t : State} (h : pop8 s = .ok (m, t)) : Accessed { s with sp := s.sp + 1 } t :=
  accessed_of_read8 h

theorem accessed_of_push16 {v : Addr} {s t : State} (h : push16 v s = .ok t) : Accessed { s with sp := s.sp - 1 - 1 } t := by
  obtain ⟨u, h1, h2⟩ := exists_of_bind_ok h
  have hu := accessed_of_push8 h1
  have ht := accessed_of_push8 h2
  obtain ⟨hram, hhistory, hscript⟩ := hu
  exact Accessed.trans (.intro hram hhistory hscript) ht

theorem accessed_of_pop16 {v : Addr} {s t : State} (h : pop16 s = .ok (v, t)) : Accessed { s with sp := s.sp + 1 + 1 } t := by
  obtain ⟨⟨lo, u⟩, h1, h⟩ := exists_of_bind_ok h
  obtain ⟨⟨hi, w⟩, h2, h⟩ := exists_of_bind_ok h
  cases h
  have hu := accessed_of_pop8 h1
  have ht := accessed_of_pop8 h2
  obtain ⟨hram, hhistory, hscript⟩ := hu
  exact Accessed.trans (.intro hram hhistory hscript) ht

/-! ### Operands -/

theorem accessed_of_resolveBase {o : Operand} {base : Addr} {s t : State} (h : resolveBase o s = .ok (base, t)) :
    Accessed s t := by
  cases o
  case indirectX | indirectY =>
    simp only [resolveBase, read16zp_eq] at h
    cases h
    exact .intro id (List.prefix_append _ _) (List.suffix_refl _)
  all_goals cases h <;> exact Accessed.refl s

theorem accessed_of_resolve {o : Operand} {ea : Addr} {s t : State} (h : resolve o s = .ok (ea, t)) : Accessed s t := by
  obtain ⟨⟨base, s1⟩, h1, h⟩ := exists_of_bind_ok h
  cases h
  exact accessed_of_resolveBase h1

theorem accessed_of_readOperand {o : Operand} {m : Byte} {s t : State} (h : readOperand o s = .ok (m, t)) :
    Accessed s t := by
  cases o
  case immediate => cases h; exact Accessed.refl s
  all_goals
    obtain ⟨⟨ea, s1⟩, h1, h⟩ := exists_of_bind_ok h
    exact (accessed_of_resolve h1).trans (accessed_of_read8 h)

end Sys2Proof.Machine
end

section
/-! SUPPORT. What an instruction can do as a whole (rule R111): bus accesses, its mnemonic's effect on the register file, and a
move of `PC`; and what that effect leaves of each register and flag. -/

namespace Sys2Proof.Machine

/-! ### What an instruction does to the register file -/

/-- What the instructions of a mnemonic do to A, X, Y, SP, P and the run status, `b` being the byte they read or pull. A
mnemonic not listed does nothing to them. -/
def registerEffect (m : Mnemonic) (o : Operand) (b : Byte) (u : State) : State :=
  match m with
  | .LDA => ldaEffect b u
  | .LDX => ldxEffect b u
  | .LDY => ldyEffect b u
  | .TAX => taxEffect u
  | .TAY => tayEffect u
  | .TXA => txaEffect u
  | .TYA => tyaEffect u
  | .TSX => tsxEffect u
  | .TXS => txsEffect u
  | .PHA => { u with sp := u.sp - 1 }
  | .PHP => { u with sp := u.sp - 1 }
  | .PLA => plaEffect b { u with sp := u.sp + 1 }
  | .PLP => plpEffect b { u with sp := u.sp + 1 }
  | .ADC => adcEffect b u
  | .SBC => sbcEffect b u
  | .AND => andEffect b u
  | .ORA => oraEffect b u
  | .EOR => eorEffect b u
  | .CMP => cmpEffect b u
  | .CPX => cpxEffect b u
  | .CPY => cpyEffect b u
  | .BIT => bitEffect b u
  | .INC => incEffect b u
  | .DEC => decEffect b u
  | .INX => inxEffect u
  | .INY => inyEffect u
  | .DEX => dexEffect u
  | .DEY => deyEffect u
  | .ASL => if o = .accumulator then aslAEffect u else aslEffect b u
  | .LSR => if o = .accumulator then lsrAEffect u else lsrEffect b u
  | .ROL => if o = .accumulator then rolAEffect u else rolEffect b u
  | .ROR => if o = .accumulator then rorAEffect u else rorEffect b u
  | .JSR => { u with sp := u.sp - 1 - 1 }
  | .RTS => { u with sp := u.sp + 1 + 1 }
  | .RTI => { plpEffect b u with sp := u.sp + 1 + 1 + 1 }
  | .BRK => { brkEffect u with status := .halted .brk }
  | .KIL => { u with status := .halted .kil }
  | .CLC => clcEffect u
  | .SEC => secEffect u
  | .CLI => cliEffect u
  | .SEI => seiEffect u
  | .CLD => cldEffect u
  | .SED => sedEffect u
  | .CLV => clvEffect u
  | .LAX => laxEffect b u
  | .DCP => dcpEffect b u
  | .ISB => isbEffect b u
  | .SLO => sloEffect b u
  | .RLA => rlaEffect b u
  | .SRE => sreEffect b u
  | .RRA => rraEffect b u
  | .ANC => ancEffect b u
  | .ALR => alrEffect b u
  | .ARR => arrEffect b u
  | .AXS => axsEffect b u
  | .LAS => lasEffect b u
  | .XAA => xaaEffect b u
  | .LXA => lxaEffect b u
  | .TAS => tasEffect u
  | _ => u

/-- From `s` to `t` by bus accesses, `effect` of the byte they read, and a move of `PC`. -/
def RunsEffect (effect : Byte → State → State) (s t : State) : Prop :=
  ∃ b u pc, Accessed s u ∧ t = { effect b u with pc := pc }

theorem complete_next {op : Byte} {s t : State} {r : Except BusFault State} (h : complete op s r = .next t) : r = .ok t := by
  cases r with
  | ok u => cases h; rfl
  | error f => cases h

theorem ifAdmitted_next {op : Byte} {r : Result} {s t : State} (h : ifAdmitted op r s = .next t) : r = .next t := by
  unfold ifAdmitted at h
  split at h
  · exact h
  · cases h

section
variable {op : Byte} {o : Operand} {s t : State}

theorem readInstr_runsEffect {eff : Byte → State → State} (h : readInstr op o eff s = .next t) : RunsEffect eff s t := by
  obtain ⟨⟨b, u⟩, h1, h⟩ := exists_of_bind_ok (complete_next h)
  cases h
  exact ⟨b, u, _, accessed_of_readOperand h1, rfl⟩

theorem modifyInstr_runsEffect {val : Byte → State → Byte} {eff : Byte → State → State}
    (h : modifyInstr op o val eff s = .next t) : RunsEffect eff s t := by
  obtain ⟨⟨ea, s1⟩, h1, h⟩ := exists_of_bind_ok (complete_next h)
  obtain ⟨⟨b, s2⟩, h2, h⟩ := exists_of_bind_ok h
  obtain ⟨u, h3, h⟩ := exists_of_bind_ok h
  cases h
  exact ⟨b, u, _, ((accessed_of_resolve h1).trans (accessed_of_read8 h2)).trans (accessed_of_write8 h3), rfl⟩

theorem storeInstr_runsEffect {val : State → Byte} (h : storeInstr op o val s = .next t) :
    RunsEffect (fun _ u => u) s t := by
  obtain ⟨⟨ea, s1⟩, h1, h⟩ := exists_of_bind_ok (complete_next h)
  obtain ⟨u, h2, h⟩ := exists_of_bind_ok h
  cases h
  exact ⟨0, u, _, (accessed_of_resolve h1).trans (accessed_of_write8 h2), rfl⟩

theorem storeHigh_runsEffect {val : State → Byte} (h : storeHigh op o val s = .next t) :
    RunsEffect (fun _ u => u) s t := by
  obtain ⟨⟨base, s1⟩, h1, h⟩ := exists_of_bind_ok (complete_next h)
  obtain ⟨u, h2, h⟩ := exists_of_bind_ok h
  cases h
  exact ⟨0, u, _, (accessed_of_resolveBase h1).trans (accessed_of_write8 h2), rfl⟩

theorem impliedInstr_runsEffect {f : State → State} (h : impliedInstr f s = .next t) : RunsEffect (fun _ => f) s t := by
  cases h
  exact ⟨0, s, _, .refl s, rfl⟩

/-- The shifts, of the accumulator or of memory (rules R189 to R192). -/
theorem shift_runsEffect {f : State → State} {val : Byte → State → Byte} {eff : Byte → State → State}
    (h : (if o = .accumulator then impliedInstr f s else modifyInstr op o val eff s) = .next t) :
    RunsEffect (fun b u => if o = .accumulator then f u else eff b u) s t := by
  by_cases ho : o = .accumulator
  · simp only [ho, if_true] at h ⊢
    exact impliedInstr_runsEffect h
  · simp only [ho, if_false] at h ⊢
    exact modifyInstr_runsEffect h

theorem branchOn_runsEffect {cond : Bool} (h : branchOn o cond s = .next t) : RunsEffect (fun _ u => u) s t := by
  cases o <;> cases h <;> exact ⟨0, s, _, .refl s, rfl⟩

theorem execJmpInd_runsEffect {a : Addr} (h : execJmpInd a s = .next t) : RunsEffect (fun _ u => u) s t := by
  obtain ⟨⟨lo, s1⟩, h1, h⟩ := exists_of_bind_ok (complete_next h)
  obtain ⟨⟨hi, s2⟩, h2, h⟩ := exists_of_bind_ok h
  cases h
  exact ⟨0, s2, _, (accessed_of_read8 h1).trans (accessed_of_read8 h2), rfl⟩

theorem execJsr_runsEffect {a : Addr} (h : execJsr a s = .next t) : RunsEffect (registerEffect .JSR o) s t := by
  obtain ⟨u, h1, h⟩ := exists_of_bind_ok (complete_next h)
  obtain ⟨hram, hhistory, hscript⟩ := accessed_of_push16 h1
  cases h
  exact ⟨0, _, _, .intro hram hhistory hscript, rfl⟩

theorem execRts_runsEffect (h : execRts s = .next t) : RunsEffect (registerEffect .RTS o) s t := by
  obtain ⟨⟨v, u⟩, h1, h⟩ := exists_of_bind_ok (complete_next h)
  obtain ⟨hram, hhistory, hscript⟩ := accessed_of_pop16 h1
  cases h
  exact ⟨0, _, _, .intro hram hhistory hscript, rfl⟩

theorem execRti_runsEffect (h : execRti s = .next t) : RunsEffect (registerEffect .RTI o) s t := by
  obtain ⟨⟨b, u⟩, h1, h⟩ := exists_of_bind_ok (complete_next h)
  obtain ⟨⟨v, w⟩, h2, h⟩ := exists_of_bind_ok h
  obtain ⟨hram, hhistory, hscript⟩ := accessed_of_pop8 h1
  obtain ⟨hram', hhistory', hscript'⟩ := accessed_of_pop16 h2
  cases h
  exact ⟨b, _, _, .intro (hram' ∘ hram) (hhistory.trans hhistory') (hscript'.trans hscript), rfl⟩

/-- PHA and PHP (rules R142, R143). -/
theorem push8_runsEffect {v : Byte} (h : complete op s (push8 v s) = .next t) : RunsEffect (registerEffect .PHA o) s t := by
  obtain ⟨hram, hhistory, hscript⟩ := accessed_of_push8 (complete_next h)
  exact ⟨0, _, _, .intro hram hhistory hscript, rfl⟩

theorem execPla_runsEffect (h : execPla s = .next t) : RunsEffect (registerEffect .PLA o) s t := by
  obtain ⟨⟨b, u⟩, h1, h⟩ := exists_of_bind_ok (complete_next h)
  obtain ⟨hram, hhistory, hscript⟩ := accessed_of_pop8 h1
  cases h
  exact ⟨b, _, _, .intro hram hhistory hscript, rfl⟩

theorem execPlp_runsEffect (h : execPlp s = .next t) : RunsEffect (registerEffect .PLP o) s t := by
  obtain ⟨⟨b, u⟩, h1, h⟩ := exists_of_bind_ok (complete_next h)
  obtain ⟨hram, hhistory, hscript⟩ := accessed_of_pop8 h1
  cases h
  exact ⟨b, _, _, .intro hram hhistory hscript, rfl⟩

theorem tas_runsEffect (h : storeHigh op o tasValue (tasEffect s) = .next t) :
    RunsEffect (registerEffect .TAS o) s t := by
  obtain ⟨b, u, pc, hu, ht⟩ := storeHigh_runsEffect h
  obtain ⟨hram, hhistory, hscript⟩ := hu
  exact ⟨b, _, pc, .intro hram hhistory hscript, ht⟩

end

theorem operand_of_jsr {i : Instr} (h : i.mnemonic = .JSR) : ∃ a, i.operand = .target a := by
  cases i <;> cases h
  exact ⟨_, rfl⟩

theorem execAs_next {m : Mnemonic} {op : Byte} {o : Operand} {s t : State} (hjsr : m = .JSR → ∃ a, o = .target a)
    (h : execAs m op o s = .next t) : RunsEffect (registerEffect m o) s t := by
  cases m
  case ORA | ANC | AND | BIT | EOR | ALR | ADC | ARR | LDY | LDA | LDX | LAX | LAS | CPY | CMP | AXS | CPX | SBC =>
    exact readInstr_runsEffect h
  case XAA | LXA => exact readInstr_runsEffect (ifAdmitted_next h)
  case SLO | RLA | SRE | RRA | DCP | ISB | DEC | INC => exact modifyInstr_runsEffect h
  case ASL | ROL | LSR | ROR => exact shift_runsEffect h
  case STA | SAX | STY | STX => exact storeInstr_runsEffect h
  case SHA | SHY | SHX => exact storeHigh_runsEffect (ifAdmitted_next h)
  case TAS => exact tas_runsEffect (ifAdmitted_next h)
  case CLC | SEC | CLI | SEI | CLV | CLD | SED | DEY | TXA | TYA | TXS | TAY | TAX | TSX | INY | DEX | INX =>
    exact impliedInstr_runsEffect h
  case BPL | BMI | BVC | BVS | BCC | BCS | BNE | BEQ => exact branchOn_runsEffect h
  case PHP | PHA => exact push8_runsEffect (o := o) h
  case PLP => exact execPlp_runsEffect h
  case PLA => exact execPla_runsEffect h
  case RTI => exact execRti_runsEffect h
  case RTS => exact execRts_runsEffect h
  case BRK | KIL => cases h; exact ⟨0, s, _, .refl s, rfl⟩
  case NOP =>
    simp only [execAs] at h
    split at h
    · exact impliedInstr_runsEffect h
    · exact readInstr_runsEffect h
  case JSR =>
    obtain ⟨a, rfl⟩ := hjsr rfl
    exact execJsr_runsEffect h
  case JMP =>
    simp only [execAs] at h
    split at h
    · cases h; exact ⟨0, s, _, .refl s, rfl⟩
    · exact execJmpInd_runsEffect h
    · cases h; exact ⟨0, s, _, .refl s, rfl⟩

/-- All an instruction that goes on can have done: accesses, what its mnemonic does to the register file, and a move of
`PC`. -/
theorem exec_next {i : Instr} {s t : State} (h : exec i s = .next t) :
    RunsEffect (registerEffect i.mnemonic i.operand) s t :=
  execAs_next operand_of_jsr (exec_eq i s ▸ h)

/-! ### What each mnemonic leaves of the register file -/

section
variable {m : Mnemonic} {o : Operand} {b : Byte} {u : State}

theorem registerEffect_frame (m : Mnemonic) (o : Operand) (b : Byte) (u : State) :
    let r := registerEffect m o b u
    r = { u with a := r.a, x := r.x, y := r.y, sp := r.sp, p := r.p, status := r.status } := by
  cases m
  case ASL | LSR | ROL | ROR | BRK => simp only [registerEffect, brkEffect]; split <;> rfl
  all_goals rfl

@[simp] theorem registerEffect_prg : (registerEffect m o b u).prg = u.prg := by rw [registerEffect_frame]
@[simp] theorem registerEffect_prgSize : (registerEffect m o b u).prgSize = u.prgSize := by rw [registerEffect_frame]
@[simp] theorem registerEffect_config : (registerEffect m o b u).config = u.config := by rw [registerEffect_frame]
@[simp] theorem registerEffect_history : (registerEffect m o b u).history = u.history := by rw [registerEffect_frame]
@[simp] theorem registerEffect_ppuScript : (registerEffect m o b u).ppuScript = u.ppuScript := by
  rw [registerEffect_frame]
@[simp] theorem registerEffect_memoryOk : (registerEffect m o b u).memoryOk = u.memoryOk := by
  rw [registerEffect_frame]; rfl

theorem registerEffect_a (hm : m ∉ ([.LDA, .TXA, .TYA, .PLA, .ADC, .SBC, .AND, .ORA, .EOR, .LAX, .ISB, .SLO, .RLA, .SRE,
    .RRA, .ANC, .ALR, .ARR, .LAS, .XAA, .LXA] : List Mnemonic)) (ho : o ≠ .accumulator) :
    (registerEffect m o b u).a = u.a := by
  cases m
  case ASL | LSR | ROL | ROR => simp only [registerEffect, if_neg ho]; rfl
  case BRK => simp only [registerEffect, brkEffect]; split <;> rfl
  case LDA | TXA | TYA | PLA | ADC | SBC | AND | ORA | EOR | LAX | ISB | SLO | RLA | SRE | RRA | ANC | ALR | ARR | LAS |
      XAA | LXA => exact absurd (by decide) hm
  all_goals rfl

theorem registerEffect_x (hm : m ∉ ([.LDX, .TAX, .TSX, .INX, .DEX, .LAX, .AXS, .LAS, .LXA] : List Mnemonic)) :
    (registerEffect m o b u).x = u.x := by
  cases m
  case ASL | LSR | ROL | ROR | BRK => simp only [registerEffect, brkEffect]; split <;> rfl
  case LDX | TAX | TSX | INX | DEX | LAX | AXS | LAS | LXA => exact absurd (by decide) hm
  all_goals rfl

theorem registerEffect_y (hm : m ∉ ([.LDY, .TAY, .INY, .DEY] : List Mnemonic)) : (registerEffect m o b u).y = u.y := by
  cases m
  case ASL | LSR | ROL | ROR | BRK => simp only [registerEffect, brkEffect]; split <;> rfl
  case LDY | TAY | INY | DEY => exact absurd (by decide) hm
  all_goals rfl

theorem registerEffect_sp (hm : m ∉ ([.TXS, .PHA, .PHP, .PLA, .PLP, .JSR, .RTS, .RTI, .LAS, .TAS] : List Mnemonic)) :
    (registerEffect m o b u).sp = u.sp := by
  cases m
  case ASL | LSR | ROL | ROR | BRK => simp only [registerEffect, brkEffect]; split <;> rfl
  case TXS | PHA | PHP | PLA | PLP | JSR | RTS | RTI | LAS | TAS => exact absurd (by decide) hm
  all_goals rfl

theorem registerEffect_status (hm : m ∉ ([.BRK, .KIL] : List Mnemonic)) :
    (registerEffect m o b u).status = u.status := by
  cases m
  case ASL | LSR | ROL | ROR => simp only [registerEffect]; split <;> rfl
  case BRK | KIL => exact absurd (by decide) hm
  all_goals rfl

/-! ### The flags each mnemonic writes (rule R23) -/

/-- The flags the instructions of a mnemonic write. -/
def writtenFlags (m : Mnemonic) : List Flag :=
  match m with
  | .ADC | .SBC | .ISB | .RRA | .ARR => [.C, .V, .Z, .N]
  | .CMP | .CPX | .CPY | .DCP | .AXS | .ASL | .LSR | .ROL | .ROR | .SLO | .RLA | .SRE | .ANC | .ALR => [.C, .Z, .N]
  | .LDA | .LDX | .LDY | .TAX | .TAY | .TXA | .TYA | .TSX | .PLA | .AND | .ORA | .EOR | .INC | .DEC | .INX | .INY | .DEX
  | .DEY | .LAX | .LAS | .XAA | .LXA => [.Z, .N]
  | .BIT => [.Z, .V, .N]
  | .CLC | .SEC => [.C]
  | .CLI | .SEI => [.I]
  | .CLD | .SED => [.D]
  | .CLV => [.V]
  | .BRK => [.B]
  | .PLP | .RTI => [.C, .Z, .I, .D, .B, .B2, .V, .N]
  | _ => []

variable {f : Flag}

theorem flag_setFlag_of_ne {g : Flag} (h : f ≠ g) (s : State) (v : Bool) : (s.setFlag g v).flag f = s.flag f := by
  simp [h.symm]

theorem flag_setZN_of_notMem (hf : f ∉ [Flag.Z, .N]) (s : State) (v : Byte) : (s.setZN v).flag f = s.flag f := by
  simp only [List.mem_cons, List.not_mem_nil, or_false, not_or] at hf
  simp [hf]

theorem flag_setZN_setFlag_C (hf : f ∉ [Flag.C, .Z, .N]) (s : State) (c : Bool) (v : Byte) :
    ((s.setFlag .C c).setZN v).flag f = s.flag f := by
  rw [flag_setZN_of_notMem (List.not_mem_of_not_mem_cons hf), flag_setFlag_of_ne (List.ne_of_not_mem_cons hf)]

theorem flag_addToA (hf : f ∉ [Flag.C, .V, .Z, .N]) (m : Byte) (s : State) : (addToA m s).flag f = s.flag f := by
  have hV := List.not_mem_of_not_mem_cons hf
  rw [addToA, flag_setZN_of_notMem (List.not_mem_of_not_mem_cons hV), flag_setFlag_of_ne (List.ne_of_not_mem_cons hV),
    flag_setFlag_of_ne (List.ne_of_not_mem_cons hf)]
  rfl

theorem registerEffect_flag (hf : f ∉ writtenFlags m) : (registerEffect m o b u).flag f = u.flag f := by
  cases m
  case ADC | SBC | ISB => exact flag_addToA hf _ u
  case RRA => exact (flag_addToA hf _ _).trans (flag_setFlag_of_ne (List.ne_of_not_mem_cons hf) u _)
  case ARR =>
    have hV := List.not_mem_of_not_mem_cons hf
    simp only [registerEffect, arrEffect]
    rw [flag_setFlag_of_ne (List.ne_of_not_mem_cons hV), flag_setFlag_of_ne (List.ne_of_not_mem_cons hf),
      flag_setZN_of_notMem (List.not_mem_of_not_mem_cons hV)]
    rfl
  case ANC =>
    exact (flag_setFlag_of_ne (List.ne_of_not_mem_cons hf) _ _).trans
      (flag_setZN_of_notMem (List.not_mem_of_not_mem_cons hf) _ _)
  case CMP | CPX | CPY | DCP | AXS | SLO | RLA | SRE | ALR => exact flag_setZN_setFlag_C hf _ _ _
  case ASL | LSR | ROL | ROR => simp only [registerEffect]; split <;> exact flag_setZN_setFlag_C hf _ _ _
  case LDA | LDX | LDY | TAX | TAY | TXA | TYA | TSX | PLA | AND | ORA | EOR | INC | DEC | INX | INY | DEX | DEY | LAX |
      LAS | XAA | LXA => exact flag_setZN_of_notMem hf _ _
  case BIT =>
    have hV := List.not_mem_of_not_mem_cons hf
    simp only [registerEffect, bitEffect]
    rw [flag_setFlag_of_ne (List.ne_of_not_mem_cons (List.not_mem_of_not_mem_cons hV)),
      flag_setFlag_of_ne (List.ne_of_not_mem_cons hV), flag_setFlag_of_ne (List.ne_of_not_mem_cons hf)]
  case CLC | SEC | CLI | SEI | CLD | SED | CLV => exact flag_setFlag_of_ne (List.ne_of_not_mem_cons hf) u _
  case BRK =>
    simp only [registerEffect, brkEffect]
    split
    · exact flag_setFlag_of_ne (List.ne_of_not_mem_cons hf) u _
    · rfl
  case PLP | RTI => cases f <;> exact absurd (by decide) hf
  all_goals rfl

end

theorem exec_flag {i : Instr} {s t : State} {f : Flag} (h : exec i s = .next t) (hf : f ∉ writtenFlags i.mnemonic) :
    t.flag f = s.flag f := by
  obtain ⟨b, u, pc, hu, rfl⟩ := exec_next h
  cases hu
  exact registerEffect_flag hf

end Sys2Proof.Machine
end

section
/-! SUPPORT. What a step that goes on can have done (rules R37, R95), and what it does to the status bits B2 and B (rule R41). -/

namespace Sys2Proof.Machine

/-! ### One step -/

theorem accessed_of_fetchOperand {f : Form} {bytes : List Byte} {s t : State} (h : fetchOperand f s = .ok (bytes, t)) :
    Accessed s t := by
  cases f with
  | implied _ => cases h; exact .refl s
  | immediate _ | byte _ =>
    obtain ⟨⟨b, u⟩, h1, h⟩ := exists_of_bind_ok h
    cases h
    exact accessed_of_read8 h1
  | word _ =>
    obtain ⟨⟨lo, u⟩, h1, h⟩ := exists_of_bind_ok h
    obtain ⟨⟨hi, w⟩, h2, h⟩ := exists_of_bind_ok h
    cases h
    exact (accessed_of_read8 h1).trans (accessed_of_read8 h2)

/-- A fetch reads and moves `PC` past the opcode byte, or stops the step with no next state (rule R95). -/
theorem fetch_cases (s : State) :
    (∃ i t, fetch s = .decoded i t ∧ Accessed { s with pc := s.pc + 1 } t) ∨
      ∃ r, fetch s = .stop r ∧ ∀ t, r ≠ .next t := by
  unfold fetch
  split
  · exact .inr ⟨_, rfl, fun _ h => by cases h⟩
  · rename_i op u hop
    split
    · exact .inr ⟨_, rfl, fun _ h => by cases h⟩
    · split
      · exact .inr ⟨_, rfl, fun _ h => by cases h⟩
      · split
        · exact .inr ⟨_, rfl, fun _ h => by cases h⟩
        · rename_i bytes w hbytes
          split
          · obtain ⟨hram, hhistory, hscript⟩ := accessed_of_read8 hop
            exact .inl ⟨_, _, rfl, Accessed.trans (.intro hram hhistory hscript) (accessed_of_fetchOperand hbytes)⟩
          · exact .inr ⟨_, rfl, fun _ h => by cases h⟩

/-- All a step that goes on can have done: it is in the status Running, fetches an instruction and runs its meaning
(rules R37, R95). -/
theorem step_next {s t : State} (h : step s = .next t) :
    s.status = .running ∧
      ∃ i : Instr, RunsEffect (registerEffect i.mnemonic i.operand) { s with pc := s.pc + 1 } t := by
  unfold step at h
  split at h
  · rename_i hrun
    obtain ⟨i, u, hf, hu⟩ | ⟨r, hf, hr⟩ := fetch_cases s
    · rw [hf] at h
      obtain ⟨b, w, pc, hw, ht⟩ := exec_next h
      exact ⟨hrun, i, b, w, pc, hu.trans hw, ht⟩
    · rw [hf] at h
      exact absurd h (hr t)
  all_goals cases h

/-! ### The status bits B2 and B (rule R41) -/

section
variable {m : Mnemonic} {o : Operand} {b : Byte} {u : State}

theorem registerEffect_keeps_B2 (h : u.flag .B2 = true) : (registerEffect m o b u).flag .B2 = true := by
  by_cases hm : m ∈ [.PLP, .RTI]
  · simp only [List.mem_cons, List.not_mem_nil, or_false] at hm
    rcases hm with rfl | rfl <;> exact getLsbD_pulledStatus .B2 b
  · rw [registerEffect_flag, h]
    revert hm
    cases m <;> decide

/-- B becomes 1 by BRK alone, and only where `BRK_SETS_B` (rules R33, R234). -/
theorem registerEffect_B (h : (registerEffect m o b u).flag .B = true) :
    u.flag .B = true ∨ m = .BRK ∧ u.config.brkSetsB = true := by
  by_cases hm : m ∈ [.BRK, .PLP, .RTI]
  · simp only [List.mem_cons, List.not_mem_nil, or_false] at hm
    rcases hm with rfl | rfl | rfl
    · by_cases hb : u.config.brkSetsB = true
      · exact .inr ⟨rfl, hb⟩
      · simp only [registerEffect, brkEffect, if_neg hb] at h
        exact .inl h
    · exact absurd h (by simp [registerEffect, State.flag, plpEffect, getLsbD_pulledStatus])
    · exact absurd h (by simp [registerEffect, State.flag, plpEffect, getLsbD_pulledStatus])
  · left
    rwa [registerEffect_flag] at h
    revert hm
    cases m <;> decide

end

section
variable {s t : State} (h : step s = .next t)
include h

theorem step_config : t.config = s.config := by
  obtain ⟨-, i, b, u, pc, hu, rfl⟩ := step_next h
  cases hu
  exact registerEffect_config

theorem step_keeps_B2 (hs : s.flag .B2 = true) : t.flag .B2 = true := by
  obtain ⟨-, i, b, u, pc, hu, rfl⟩ := step_next h
  cases hu
  exact registerEffect_keeps_B2 hs

theorem step_B (ht : t.flag .B = true) :
    s.flag .B = true ∨ t.status = .halted .brk ∧ s.config.brkSetsB = true := by
  obtain ⟨-, i, b, u, pc, hu, rfl⟩ := step_next h
  cases hu
  obtain hB | ⟨hm, hb⟩ := registerEffect_B ht
  · exact .inl hB
  · exact .inr ⟨by rw [hm]; rfl, hb⟩

end

theorem State.statusBitsOk_iff (s : State) : s.statusBitsOk = true ↔
    s.flag .B2 = true ∧ (s.flag .B = true → s.status = .halted .brk ∧ s.config.brkSetsB = true) := by
  simp [State.statusBitsOk, imp_iff_not_or]

theorem State.breakBitOk_iff (s : State) : s.breakBitOk = true ↔
    s.flag .B2 = true ∧ (s.flag .B = true → s.config.brkSetsB = true) := by
  simp [State.breakBitOk, imp_iff_not_or]

theorem startRun_next {s t : State} (h : startRun s = .next t) : t = { s with status := .running } := by
  unfold startRun at h
  split at h <;> cases h <;> rfl

/-- `reset()` leaves the status byte of rule R39. -/
theorem hostReset_p {s t : State} (h : hostReset s = .next t) : t.p = 0x24 := by
  have hbody : resetBody s = .next t := by
    unfold hostReset at h
    split at h
    case h_1 | h_2 | h_3 => exact h
    all_goals cases h
  unfold resetBody at hbody
  split at hbody
  · rename_i v u hu
    cases hbody
    cases accessed_of_read16 hu
    rfl
  · cases hbody

end Sys2Proof.Machine
end

section
/-! SUPPORT. A write of a flag commutes with every operation that neither reads nor writes it (rules R24, R321). -/

namespace Sys2Proof.Machine

section
variable (f : Flag) (v : Bool)

theorem read8_setFlag (k : AccessKind) (addr : Addr) (s : State) :
    read8 k addr (s.setFlag f v) = (read8 k addr s).map (Prod.map id (·.setFlag f v)) := by
  unfold read8
  simp only [State.setFlag_prgSize]
  cases busDecode s.prgSize addr with
  | ram i | prg i | unmapped => rfl
  | ppu r =>
    cases hc : r.readCall with
    | none => simp only [hc]; rfl
    | some call =>
      have ha : (s.setFlag f v).ppuAnswer call = s.ppuAnswer call := rfl
      simp only [hc, ha]
      cases s.ppuAnswer call <;> rfl

theorem write8_setFlag (k : AccessKind) (addr : Addr) (b : Byte) (s : State) :
    write8 k addr b (s.setFlag f v) = (write8 k addr b s).map (·.setFlag f v) := by
  unfold write8
  simp only [State.setFlag_prgSize]
  cases busDecode s.prgSize addr with
  | ram i | prg i | unmapped => rfl
  | ppu r =>
    cases hc : r.writeCall b with
    | none => simp only [hc]; rfl
    | some call =>
      have ha : (s.setFlag f v).ppuAnswer call = s.ppuAnswer call := rfl
      simp only [hc, ha]
      cases s.ppuAnswer call <;> rfl

theorem resolveBase_setFlag (o : Operand) (s : State) :
    resolveBase o (s.setFlag f v) = (resolveBase o s).map (Prod.map id (·.setFlag f v)) := by
  cases o
  case indirectX | indirectY => simp only [resolveBase, read16zp_eq]; rfl
  all_goals rfl

theorem bind_map_of_commutes {ε α β : Type} {x : Except ε α} {g : α → α} {g' : β → β} {k k' : α → Except ε β}
    (hk : ∀ a, k (g a) = (k' a).map g') : (x.map g >>= k) = (x >>= k').map g' := by
  cases x with
  | ok a => exact hk a
  | error e => rfl

theorem resolve_setFlag (o : Operand) (s : State) :
    resolve o (s.setFlag f v) = (resolve o s).map (Prod.map id (·.setFlag f v)) := by
  unfold resolve
  rw [resolveBase_setFlag]
  refine bind_map_of_commutes fun a => ?_
  cases o <;> rfl

theorem readOperand_setFlag (o : Operand) (s : State) :
    readOperand o (s.setFlag f v) = (readOperand o s).map (Prod.map id (·.setFlag f v)) := by
  cases o
  case immediate => rfl
  all_goals
    simp only [readOperand, resolve_setFlag]
    exact bind_map_of_commutes fun a => read8_setFlag f v _ _ _

variable {f v}

theorem complete_setFlag {op : Byte} {s : State} {r r' : Except BusFault State} (h : r' = r.map (·.setFlag f v)) :
    complete op (s.setFlag f v) r' = mapNext (·.setFlag f v) (complete op s r) := by
  subst h
  cases r <;> rfl

variable {op : Byte} {o : Operand} {eff : Byte → State → State}

theorem readInstr_setFlag (heff : ∀ b u, eff b (u.setFlag f v) = (eff b u).setFlag f v) (s : State) :
    readInstr op o eff (s.setFlag f v) = mapNext (·.setFlag f v) (readInstr op o eff s) := by
  refine complete_setFlag ?_
  rw [readOperand_setFlag]
  refine bind_map_of_commutes fun a => ?_
  simp only [Prod.map, heff]
  rfl

theorem modifyInstr_setFlag {val : Byte → State → Byte} (hval : ∀ b u, val b (u.setFlag f v) = val b u)
    (heff : ∀ b u, eff b (u.setFlag f v) = (eff b u).setFlag f v) (s : State) :
    modifyInstr op o val eff (s.setFlag f v) = mapNext (·.setFlag f v) (modifyInstr op o val eff s) := by
  refine complete_setFlag ?_
  rw [resolve_setFlag]
  refine bind_map_of_commutes fun a => ?_
  simp only [Prod.map, read8_setFlag]
  refine bind_map_of_commutes fun a => ?_
  simp only [Prod.map, hval, write8_setFlag]
  refine bind_map_of_commutes fun a => ?_
  simp only [heff]
  rfl

theorem storeInstr_setFlag {val : State → Byte} (hval : ∀ u, val (u.setFlag f v) = val u) (s : State) :
    storeInstr op o val (s.setFlag f v) = mapNext (·.setFlag f v) (storeInstr op o val s) := by
  refine complete_setFlag ?_
  rw [resolve_setFlag]
  refine bind_map_of_commutes fun a => ?_
  simp only [Prod.map, hval, write8_setFlag]
  exact bind_map_of_commutes fun a => rfl

theorem storeHigh_setFlag {val : State → Byte} (hval : ∀ u, val (u.setFlag f v) = val u) (s : State) :
    storeHigh op o val (s.setFlag f v) = mapNext (·.setFlag f v) (storeHigh op o val s) := by
  refine complete_setFlag ?_
  rw [resolveBase_setFlag]
  refine bind_map_of_commutes fun a => ?_
  have hindex : ∀ u : State, indexOf o (u.setFlag f v) = indexOf o u := by intro u; cases o <;> rfl
  simp only [Prod.map, hval, hindex, write8_setFlag]
  exact bind_map_of_commutes fun a => rfl

theorem ifAdmitted_setFlag {r r' : Result} {s : State} (h : r' = mapNext (·.setFlag f v) r) :
    ifAdmitted op r' (s.setFlag f v) = mapNext (·.setFlag f v) (ifAdmitted op r s) := by
  simp only [ifAdmitted, State.setFlag_config, h]
  split <;> rfl

theorem branchOn_setFlag (cond : Bool) (s : State) :
    branchOn o cond (s.setFlag f v) = mapNext (·.setFlag f v) (branchOn o cond s) := by
  cases o <;> rfl

/-! #### What an instruction does to the register file -/

theorem setFlag_comm {g : Flag} (h : f ≠ g) (s : State) (w : Bool) :
    (s.setFlag g w).setFlag f v = (s.setFlag f v).setFlag g w := by
  simp only [State.setFlag, withFlag_comm h]

theorem setZN_setFlag (hf : f ∉ [Flag.Z, .N]) (s : State) (b : Byte) :
    (s.setZN b).setFlag f v = (s.setFlag f v).setZN b := by
  have hN := List.ne_of_not_mem_cons (List.not_mem_of_not_mem_cons hf)
  simp only [State.setFlag, State.setZN, withZN_withFlag (List.ne_of_not_mem_cons hf) hN]

theorem setZN_setFlag_C (hf : f ∉ [Flag.C, .Z, .N]) (s : State) (c : Bool) (b : Byte) :
    ((s.setFlag .C c).setZN b).setFlag f v = ((s.setFlag f v).setFlag .C c).setZN b := by
  rw [setZN_setFlag (List.not_mem_of_not_mem_cons hf), setFlag_comm (List.ne_of_not_mem_cons hf)]

theorem addToA_setFlag (hf : f ∉ [Flag.C, .V, .Z, .N]) (m : Byte) (s : State) :
    addToA m (s.setFlag f v) = (addToA m s).setFlag f v := by
  have hC := List.ne_of_not_mem_cons hf
  have hV := List.not_mem_of_not_mem_cons hf
  simp only [addToA, State.flag_setFlag, if_neg hC]
  rw [setZN_setFlag (List.not_mem_of_not_mem_cons hV), setFlag_comm (List.ne_of_not_mem_cons hV), setFlag_comm hC]
  rfl

/-- What a mnemonic does to the register file commutes with a write of a flag that it does not write itself: the one flag it
can read is C, and a mnemonic that reads C into the register file writes C. -/
theorem registerEffect_setFlag {m : Mnemonic} (hf : f ∉ writtenFlags m) (o : Operand) (b : Byte) (u : State) :
    registerEffect m o b (u.setFlag f v) = (registerEffect m o b u).setFlag f v := by
  have hflag : f ≠ .C → (u.setFlag f v).flag .C = u.flag .C := fun h => flag_setFlag_of_ne h.symm u v
  cases m
  case ADC | SBC | ISB => exact addToA_setFlag hf _ u
  case RRA =>
    have hC := List.ne_of_not_mem_cons hf
    simp only [registerEffect, rraEffect, hflag hC, ← setFlag_comm hC]
    exact addToA_setFlag hf _ _
  case ARR =>
    have hC := List.ne_of_not_mem_cons hf
    have hV := List.not_mem_of_not_mem_cons hf
    simp only [registerEffect, arrEffect, hflag hC]
    rw [setFlag_comm (List.ne_of_not_mem_cons hV), setFlag_comm hC, setZN_setFlag (List.not_mem_of_not_mem_cons hV)]
    rfl
  case ANC =>
    simp only [registerEffect, ancEffect]
    rw [setFlag_comm (List.ne_of_not_mem_cons hf), setZN_setFlag (List.not_mem_of_not_mem_cons hf)]
    rfl
  case CMP | CPX | CPY | DCP | AXS | SLO | SRE | ALR => exact Eq.symm (setZN_setFlag_C hf _ _ _)
  case RLA =>
    simp only [registerEffect, rlaEffect, hflag (List.ne_of_not_mem_cons hf)]
    exact Eq.symm (setZN_setFlag_C hf _ _ _)
  case ASL | LSR | ROL | ROR =>
    simp only [registerEffect, rolAEffect, rolEffect, rorAEffect, rorEffect, hflag (List.ne_of_not_mem_cons hf)]
    split <;> exact Eq.symm (setZN_setFlag_C hf _ _ _)
  case LDA | LDX | LDY | TAX | TAY | TXA | TYA | TSX | PLA | AND | ORA | EOR | INC | DEC | INX | INY | DEX | DEY | LAX |
      LAS | XAA | LXA => exact Eq.symm (setZN_setFlag hf _ _)
  case BIT =>
    have hV := List.not_mem_of_not_mem_cons hf
    simp only [registerEffect, bitEffect]
    rw [setFlag_comm (List.ne_of_not_mem_cons (List.not_mem_of_not_mem_cons hV)),
      setFlag_comm (List.ne_of_not_mem_cons hV), setFlag_comm (List.ne_of_not_mem_cons hf)]
    rfl
  case CLC | SEC | CLI | SEI | CLD | SED | CLV => exact Eq.symm (setFlag_comm (List.ne_of_not_mem_cons hf) u _)
  case BRK =>
    have hbrk : brkEffect (u.setFlag f v) = (brkEffect u).setFlag f v := by
      by_cases hb : u.config.brkSetsB = true
      · simp only [brkEffect, State.setFlag_config, hb, if_true]
        exact Eq.symm (setFlag_comm (List.ne_of_not_mem_cons hf) u true)
      · simp only [brkEffect, State.setFlag_config, hb]; rfl
    simp only [registerEffect, hbrk]
    rfl
  case PLP | RTI => cases f <;> exact absurd (by decide) hf
  all_goals rfl

/-! #### The instructions -/

theorem rolValue_setFlag (hC : f ≠ .C) (b : Byte) (u : State) : rolValue b (u.setFlag f v) = rolValue b u := by
  rw [rolValue, flag_setFlag_of_ne hC.symm, rolValue]

theorem rorValue_setFlag (hC : f ≠ .C) (b : Byte) (u : State) : rorValue b (u.setFlag f v) = rorValue b u := by
  rw [rorValue, flag_setFlag_of_ne hC.symm, rorValue]

theorem shift_setFlag {a : State → State} {val : Byte → State → Byte} {eff : Byte → State → State}
    (hval : ∀ b u, val b (u.setFlag f v) = val b u)
    (heff : ∀ b u, (if o = .accumulator then a (u.setFlag f v) else eff b (u.setFlag f v)) =
      (if o = .accumulator then a u else eff b u).setFlag f v) (s : State) :
    (if o = .accumulator then impliedInstr a (s.setFlag f v) else modifyInstr op o val eff (s.setFlag f v)) =
      mapNext (·.setFlag f v) (if o = .accumulator then impliedInstr a s else modifyInstr op o val eff s) := by
  by_cases ho : o = .accumulator
  · simp only [ho, if_true] at heff ⊢
    exact congrArg Host.Outcome.next (heff 0 s)
  · simp only [ho, if_false] at heff ⊢
    exact modifyInstr_setFlag hval heff s

theorem execJmpInd_setFlag (a : Addr) (s : State) :
    execJmpInd a (s.setFlag f v) = mapNext (·.setFlag f v) (execJmpInd a s) := by
  refine complete_setFlag ?_
  rw [read8_setFlag]
  refine bind_map_of_commutes fun p => ?_
  simp only [Prod.map, read8_setFlag]
  exact bind_map_of_commutes fun _ => rfl

/-- A write of D or I commutes with every instruction that does not write or push that flag: no branch tests it, and C is
the one flag a value depends on. -/
theorem execAs_setFlag {m : Mnemonic} (hf : f = .D ∨ f = .I) (hm : f ∉ writtenFlags m) (hphp : m ≠ .PHP) (s : State) :
    execAs m op o (s.setFlag f v) = mapNext (·.setFlag f v) (execAs m op o s) := by
  have heff := registerEffect_setFlag (v := v) hm o
  have hflag : ∀ g, g ≠ f → (s.setFlag f v).flag g = s.flag g := fun g hg => flag_setFlag_of_ne hg s v
  have hCf : f ≠ .C := by rintro rfl; simp at hf
  cases m
  case ORA | ANC | AND | BIT | EOR | ALR | ADC | ARR | LDY | LDA | LDX | LAX | LAS | CPY | CMP | AXS | CPX | SBC =>
    exact readInstr_setFlag heff s
  case XAA | LXA => exact ifAdmitted_setFlag (readInstr_setFlag heff s)
  case SLO | SRE | DCP | ISB | DEC | INC => exact modifyInstr_setFlag (fun _ _ => rfl) heff s
  case RLA => exact modifyInstr_setFlag (rolValue_setFlag hCf) heff s
  case RRA => exact modifyInstr_setFlag (rorValue_setFlag hCf) heff s
  case ASL | LSR => exact shift_setFlag (fun _ _ => rfl) heff s
  case ROL => exact shift_setFlag (rolValue_setFlag hCf) heff s
  case ROR => exact shift_setFlag (rorValue_setFlag hCf) heff s
  case STA | SAX | STY | STX => exact storeInstr_setFlag (fun _ => rfl) s
  case SHA | SHY | SHX => exact ifAdmitted_setFlag (storeHigh_setFlag (fun _ => rfl) s)
  case TAS => exact ifAdmitted_setFlag (storeHigh_setFlag (fun _ => rfl) (tasEffect s))
  case CLC | SEC | CLI | SEI | CLV | CLD | SED | DEY | TXA | TYA | TXS | TAY | TAX | TSX | INY | DEX | INX | BRK | KIL =>
    exact congrArg Host.Outcome.next (heff 0 s)
  case BPL | BMI | BVC | BVS | BCC | BCS | BNE | BEQ =>
    simp only [execAs]
    rw [hflag _ (by rcases hf with rfl | rfl <;> decide)]
    exact branchOn_setFlag _ s
  case PHP => exact absurd rfl hphp
  case PHA => simp only [execAs, execPha, push8_eq]; rfl
  case PLP | RTI => cases f <;> exact absurd (by decide) hm
  case PLA =>
    simp only [execAs, execPla, pop8_eq]
    exact congrArg Host.Outcome.next (Eq.symm (setZN_setFlag hm _ _))
  case RTS => simp only [execAs, execRts, pop16_eq]; rfl
  case NOP =>
    simp only [execAs]
    split
    · rfl
    · exact readInstr_setFlag (fun _ _ => rfl) s
  case JSR =>
    cases o
    case target => simp only [execAs, execJsr, push16_eq]; rfl
    all_goals rfl
  case JMP =>
    cases o
    case indirectTarget a => exact execJmpInd_setFlag a s
    all_goals rfl

theorem setFlag_setFlag_same (s : State) (w : Bool) : (s.setFlag f v).setFlag f w = s.setFlag f w := by
  have hp : withFlag f w (withFlag f v s.p) = withFlag f w s.p :=
    eq_of_flags fun g => by by_cases hg : f = g <;> simp [getLsbD_withFlag, hg]
  simp only [State.setFlag, hp]

/-- An instruction that writes D or I overwrites it, whatever it was. -/
theorem execAs_setFlag_of_mem {m : Mnemonic} (hf : f = .D ∨ f = .I) (hm : f ∈ writtenFlags m) (s : State) :
    execAs m op o (s.setFlag f v) = execAs m op o s := by
  cases m
  case PLP => simp only [execAs, execPlp, pop8_eq]; rfl
  case RTI => simp only [execAs, execRti, pop8_eq, pop16_eq, bind, Except.bind]; rfl
  case CLI | SEI | CLD | SED =>
    obtain rfl := List.mem_singleton.mp hm
    exact congrArg Host.Outcome.next (setFlag_setFlag_same s _)
  all_goals rcases hf with rfl | rfl <;> exact absurd hm (by decide)

end

end Sys2Proof.Machine
end

section
/-! SUPPORT. The statements of 10_state.md settled. -/

namespace Sys2Proof.Machine

/-- Settles O58: the accesses of the fetch and of the instruction keep it, and an instruction does nothing else to memory. -/
theorem stepKeepsMemoryCanonical : Obligations.StepKeepsMemoryCanonical := by
  intro s t hs h
  obtain ⟨-, i, b, u, pc, hu, rfl⟩ := step_next h
  obtain ⟨hram, hhistory, -⟩ := hu
  exact ⟨registerEffect_memoryOk.trans (hram hs), registerEffect_prg, registerEffect_prgSize, registerEffect_config,
    by simpa using hhistory⟩

/-- Settles O59: a step begins Running, so with B 0; it leaves B2, and sets B by BRK alone, which halts the run. -/
theorem stepKeepsStatusBits : Obligations.StepKeepsStatusBits := by
  refine ⟨fun s t hs h => ?_, fun s t hs h => ?_, fun s t h => ?_⟩
  · rw [State.statusBitsOk_iff] at hs ⊢
    obtain ⟨hB2, hB⟩ := hs
    refine ⟨step_keeps_B2 h hB2, fun ht => ?_⟩
    obtain hsB | ⟨hst, hb⟩ := step_B h ht
    · exact absurd ((hB hsB).1.symm.trans (step_next h).1) nofun
    · exact ⟨hst, step_config h ▸ hb⟩
  · rw [State.breakBitOk_iff] at hs ⊢
    obtain ⟨hB2, hB⟩ := hs
    obtain h | h := h
    · refine ⟨step_keeps_B2 h hB2, fun ht => ?_⟩
      rw [step_config h]
      exact (step_B h ht).elim hB And.right
    · rw [startRun_next h]
      exact ⟨hB2, hB⟩
  · rw [State.statusBitsOk_iff, State.breakBitOk_iff]
    have hB2 : t.flag .B2 = true := by rw [State.flag, hostReset_p h]; decide
    have hB : t.flag .B = false := by rw [State.flag, hostReset_p h]; decide
    exact ⟨⟨hB2, by simp [hB]⟩, hB2, by simp [hB]⟩

theorem peek_stackAddr (s : State) (sp : Byte) : s.peek (stackAddr sp) = some (Memory.get s.ram (0x100 + sp.toNat)) := by
  rw [State.peek, busDecode_stack]

/-- Settles O19: the two bytes lie at different indexes, so the second write leaves the first. -/
theorem stackRoundTrip : Obligations.StackRoundTrip := by
  intro v s hwf
  obtain ⟨t, ht, hram, hsp⟩ : ∃ t, push16 v s = .ok t ∧
      t.ram = Memory.set (Memory.set s.ram (0x100 + s.sp.toNat) (hi8 v)) (0x100 + (s.sp - 1).toNat) (lo8 v) ∧
      t.sp = s.sp - 2 := ⟨_, push16_eq v s, rfl, rfl⟩
  have hne : (s.sp - 1).toNat ≠ s.sp.toNat := by bv_omega
  have hhi : Memory.get t.ram (0x100 + s.sp.toNat) = hi8 v := by
    rw [hram, Memory.get_set_ne (by omega), Memory.get_set_same hwf]
  have hlo : Memory.get t.ram (0x100 + (s.sp - 1).toNat) = lo8 v := by
    rw [hram, Memory.get_set_same (Memory.wf_set hwf _ _)]
  have h1 : t.sp + 1 = s.sp - 1 := by rw [hsp]; bv_omega
  have h2 : t.sp + 2 = s.sp := by rw [hsp]; bv_omega
  have hpop := pop16_eq t
  rw [h1, h2, hhi, hlo, word16_hi8_lo8] at hpop
  exact ⟨t, _, ht, hpop, rfl, hsp, (peek_stackAddr t s.sp).trans (congrArg some hhi),
    (peek_stackAddr t (s.sp - 1)).trans (congrArg some hlo)⟩

/-- Settles O54: an instruction writes these fields by its accesses and its mnemonic's effect on the register file alone. -/
theorem registersWrittenOnlyByNamedInstructions : Obligations.RegistersWrittenOnlyByNamedInstructions := by
  intro i s t h
  obtain ⟨b, u, pc, hu, rfl⟩ := exec_next h
  obtain ⟨-, -, hscript⟩ := hu
  exact ⟨registerEffect_a, registerEffect_x, registerEffect_y, registerEffect_sp, registerEffect_status,
    registerEffect_prg, registerEffect_prgSize, registerEffect_config, by simpa using hscript⟩

/-- Settles O55: the flags a mnemonic writes, by mnemonic and by flag. -/
theorem flagsWrittenOnlyByNamedInstructions : Obligations.FlagsWrittenOnlyByNamedInstructions := by
  intro i s t h
  have key : ∀ f, f ∉ writtenFlags i.mnemonic → t.flag f = s.flag f := fun f => exec_flag h
  generalize i.mnemonic = m at key ⊢
  refine ⟨fun hm => key .C ?_, fun hm => key .I ?_, fun hm => key .D ?_, fun hm => key .B ?_, fun hm => key .B2 ?_,
    fun hm => key .V ?_, fun hm => ⟨key .Z ?_, key .N ?_⟩⟩
  all_goals
    revert hm
    cases m <;> decide

/-- Settles O57: an instruction that does not write the flag commutes with a write of it, and one that writes it overwrites
whatever it was. -/
theorem decimalAndInterruptFlagsGateNothing : Obligations.DecimalAndInterruptFlagsGateNothing := by
  intro i s f v hf hphp writes
  have hwrites : i.mnemonic ∈ writes ↔ f ∈ writtenFlags i.mnemonic := by
    generalize i.mnemonic = m
    rcases hf with rfl | rfl <;> cases m <;> decide
  rw [exec_eq, exec_eq]
  exact ⟨fun hm => execAs_setFlag hf (mt hwrites.mpr hm) hphp s, fun hm => execAs_setFlag_of_mem hf (hwrites.mp hm) s⟩

/-- Settles O18: the stack page is RAM, so neither access can fail. -/
theorem pushAndPopOneByte : Obligations.PushAndPopOneByte := fun v s => ⟨⟨_, push8_eq v s⟩, _, pop8_eq s⟩

/-- Settles O20, by the flag laws of `setZN`. -/
theorem setZNWritesZAndNOnly : Obligations.SetZNWritesZAndNOnly := by
  intro v s
  exact ⟨by simp, by simp, fun f hz hn => flag_setZN_of_notMem (by simp [hz, hn]) s v, rfl⟩

/-- Settles O60, by evaluation. -/
theorem resetStateMeetsInvariants : Obligations.ResetStateMeetsInvariants := by
  unfold Obligations.ResetStateMeetsInvariants
  decide

end Sys2Proof.Machine
end

section
/-! SUPPORT. The decoding table of rule R52 range by range, and what a read or write answers at each kind of place. -/

namespace Sys2Proof.Machine

/-! ### Decoding by address range -/

section
variable {z : PrgSize} {addr : Addr}

theorem busDecode_ram (h : addr.toNat < 0x2000) : busDecode z addr = .ram (addr &&& 0x07FF).toNat := if_pos h

/-- The RAM index, as an integer: RAM repeats each 0x0800 (rule R53). -/
theorem busDecode_ram_mod (h : addr.toNat < 0x2000) : busDecode z addr = .ram (addr.toNat % 0x0800) := by
  rw [busDecode_ram h, BitVec.toNat_and]
  exact congrArg BusTarget.ram (Nat.and_two_pow_sub_one_eq_mod addr.toNat 11)

/-- The register is that of `addr & 0x2007` (rule R54). -/
theorem busDecode_ppu (hlo : 0x2000 ≤ addr.toNat) (hhi : addr.toNat < 0x4000) :
    busDecode z addr = .ppu (ppuRegOf (addr &&& 0x2007 &&& 0x0007).toNat) := by
  have hmask : addr &&& 0x2007 &&& 0x0007 = addr &&& 0x0007 := by rw [BitVec.and_assoc]; rfl
  rw [busDecode, if_neg (by omega), if_pos hhi, hmask]

theorem busDecode_unmapped (hlo : 0x4000 ≤ addr.toNat) (hhi : addr.toNat < 0x8000) : busDecode z addr = .unmapped := by
  rw [busDecode, if_neg (by omega), if_neg (by omega), if_neg (by omega)]

theorem busDecode_prg (h : 0x8000 ≤ addr.toNat) : busDecode z addr = .prg (prgIndex z addr) := by
  rw [busDecode, if_neg (by omega), if_neg (by omega), if_pos h]

theorem prgIndex_eq (z : PrgSize) (addr : Addr) :
    prgIndex z addr = if z = .kib16 then (addr.toNat - 0x8000) % 0x4000 else addr.toNat - 0x8000 := by
  cases z with
  | kib16 => exact (if_pos rfl).symm
  | kib32 => exact (if_neg nofun).symm

/-- `addr & 0x2007` stays among the PPU registers: of an address there, bit 13 is 1. -/
theorem ppuMirror_toNat (hlo : 0x2000 ≤ addr.toNat) (hhi : addr.toNat < 0x4000) :
    0x2000 ≤ (addr &&& 0x2007).toNat ∧ (addr &&& 0x2007).toNat < 0x4000 := by
  have hbit : addr.toNat.testBit 13 = true := by
    rw [Nat.testBit_eq_decide_div_mod_eq, decide_eq_true_eq]
    omega
  rw [BitVec.toNat_and]
  exact ⟨Nat.ge_two_pow_of_testBit (i := 13) (by rw [Nat.testBit_and, hbit]; rfl),
    Nat.lt_of_le_of_lt Nat.and_le_right (by decide)⟩

theorem sameRamByte_iff {a b : Addr} :
    sameRamByte z a b = true ↔ ∃ i, busDecode z a = .ram i ∧ busDecode z b = .ram i := by
  unfold sameRamByte
  split
  · rename_i i j ha hb
    rw [ha, hb, beq_iff_eq]
    exact ⟨fun h => ⟨i, rfl, h ▸ rfl⟩, fun ⟨_, hi, hj⟩ => BusTarget.ram.inj (hi.trans hj.symm)⟩
  · rename_i hne
    exact ⟨nofun, fun ⟨i, ha, hb⟩ => absurd hb (hne i i ha)⟩

end

/-! ### What a read or write answers -/

section
variable {k : AccessKind} {addr : Addr} {v : Byte} {s : State} {i : Nat} {r : PpuReg} {call : PpuCall}

theorem read8_ram (h : busDecode s.prgSize addr = .ram i) :
    read8 k addr s = .ok (Memory.get s.ram i, s.log k addr (some (Memory.get s.ram i)) none) := by
  simp only [read8, h]

theorem read8_prg (h : busDecode s.prgSize addr = .prg i) :
    read8 k addr s = .ok (Memory.get s.prg i, s.log k addr (some (Memory.get s.prg i)) none) := by
  simp only [read8, h]

theorem read8_unmapped (h : busDecode s.prgSize addr = .unmapped) :
    read8 k addr s = .ok (0x00, s.log k addr (some 0x00) none) := by
  simp only [read8, h]

theorem read8_done (h : busDecode s.prgSize addr = .ppu r) (hc : r.readCall = some call)
    (ha : s.ppuAnswer call = .done v) : read8 k addr s = .ok (v, s.afterAnswer.log k addr (some v) (some call)) := by
  simp only [read8, h, hc, ha]

theorem read8_ppuFault (h : busDecode s.prgSize addr = .ppu r) (hc : r.readCall = some call)
    (ha : s.ppuAnswer call = .fault) : ∃ hist, read8 k addr s = .error ⟨.ppuFault, addr, some k, hist⟩ :=
  read8_of_readStops (by simp [ReadStops, h, hc, ha])

theorem write8_ram (h : busDecode s.prgSize addr = .ram i) :
    write8 k addr v s = .ok (State.log { s with ram := Memory.set s.ram i v } k addr (some v) none) := by
  simp only [write8, h]

theorem write8_unmapped (h : busDecode s.prgSize addr = .unmapped) :
    write8 k addr v s = .ok (s.log k addr (some v) none) := by
  simp only [write8, h]

theorem write8_done {w : Byte} (h : busDecode s.prgSize addr = .ppu r) (hc : r.writeCall v = some call)
    (ha : s.ppuAnswer call = .done w) :
    write8 k addr v s = .ok (s.afterAnswer.log k addr (some v) (some call)) := by
  simp only [write8, h, hc, ha]

theorem write8_ppuFault (h : busDecode s.prgSize addr = .ppu r) (hc : r.writeCall v = some call)
    (ha : s.ppuAnswer call = .fault) : ∃ hist, write8 k addr v s = .error ⟨.ppuFault, addr, some k, hist⟩ :=
  write8_of_writeStops (by simp [WriteStops, h, hc, ha])

theorem write8_ppuStatus (h : busDecode s.prgSize addr = .ppu .status) :
    ∃ hist, write8 k addr v s = .error ⟨.ppuStatusWrite, addr, some k, hist⟩ :=
  write8_of_writeStops (by simp [WriteStops, h, PpuReg.writeCall])

end

end Sys2Proof.Machine
end

section
/-! SUPPORT. The statements of 20_memory.md about the bus settled. -/

namespace Sys2Proof.Machine

/-- Settles O14, range by range; in the PPU's range the three bits after 0x2000 name the register. -/
theorem busReadsFollowTheTable : Obligations.BusReadsFollowTheTable := by
  intro k addr s n reg relayed
  have hrelayed : ∀ {r : PpuReg} {call : PpuCall}, busDecode s.prgSize addr = .ppu r → r.readCall = some call →
      relayed call := by
    intro r call hd hc
    simp only [relayed]
    split
    · exact read8_done hd hc ‹_›
    · exact read8_ppuFault hd hc ‹_›
  refine ⟨fun h => read8_ram (busDecode_ram h), fun hlo hhi => ?_,
    fun hlo hhi => read8_unmapped (busDecode_unmapped hlo hhi), fun h => ?_⟩
  · have hd : busDecode s.prgSize addr = .ppu (ppuRegOf (reg &&& 0x0007).toNat) := busDecode_ppu hlo hhi
    refine ⟨fun hreg => read8_of_readStops (readStops_of_writeOnly hd ?_), fun hreg => hrelayed hd ?_,
      fun hreg => hrelayed hd ?_, fun hreg => hrelayed hd ?_⟩
    · simp only [List.mem_cons, List.not_mem_nil, or_false] at hreg
      rcases hreg with hreg | hreg | hreg | hreg | hreg <;> rw [hreg] <;> rfl
    all_goals rw [hreg]; rfl
  · intro i
    have hd : busDecode s.prgSize addr = .prg i := (busDecode_prg h).trans (congrArg _ (prgIndex_eq _ _))
    exact read8_prg hd

/-- Settles O15, range by range, as for the reads. -/
theorem busWritesFollowTheTable : Obligations.BusWritesFollowTheTable := by
  intro k addr v s n reg relayed
  have hrelayed : ∀ {r : PpuReg} {call : PpuCall}, busDecode s.prgSize addr = .ppu r → r.writeCall v = some call →
      relayed call := by
    intro r call hd hc
    simp only [relayed]
    split
    · exact write8_done hd hc ‹_›
    · exact write8_ppuFault hd hc ‹_›
  refine ⟨fun h => write8_ram (busDecode_ram h), fun hlo hhi => ?_,
    fun hlo hhi => write8_unmapped (busDecode_unmapped hlo hhi),
    fun h => write8_of_writeStops (writeStops_of_prg (busDecode_prg h) v)⟩
  have hd : busDecode s.prgSize addr = .ppu (ppuRegOf (reg &&& 0x0007).toNat) := busDecode_ppu hlo hhi
  refine ⟨fun hreg => hrelayed hd ?_, fun hreg => hrelayed hd ?_, fun hreg => write8_ppuStatus ?_,
    fun hreg => hrelayed hd ?_, fun hreg => hrelayed hd ?_, fun hreg => hrelayed hd ?_, fun hreg => hrelayed hd ?_,
    fun hreg => hrelayed hd ?_⟩
  case refine_3 => rw [hd, hreg]; rfl
  all_goals rw [hreg]; rfl

/-- Settles O16: the index of RAM is taken modulo 0x0800 and that of a 16 KiB image modulo 0x4000, and masking by 0x2007
twice is masking once. -/
theorem mirrorsDecodeAlike : Obligations.MirrorsDecodeAlike := by
  intro z a
  refine ⟨fun h => ?_, fun hlo hhi => ?_, fun hlo hhi => ?_⟩
  · have hmirror : ∀ b : Addr, b.toNat < 0x2000 → b.toNat % 0x0800 = a.toNat → busDecode z b = busDecode z a := by
      intro b hb hba
      rw [busDecode_ram_mod hb, busDecode_ram_mod (by omega), hba, Nat.mod_eq_of_lt h]
    exact ⟨hmirror _ (by bv_omega) (by bv_omega), hmirror _ (by bv_omega) (by bv_omega),
      hmirror _ (by bv_omega) (by bv_omega)⟩
  · obtain ⟨hlo', hhi'⟩ := ppuMirror_toNat hlo hhi
    rw [busDecode_ppu hlo hhi, busDecode_ppu hlo' hhi', BitVec.and_assoc a 0x2007 0x2007, BitVec.and_self]
  · have hsum : (a + 0x4000).toNat = a.toNat + 0x4000 := by bv_omega
    rw [busDecode_prg (by omega), busDecode_prg hlo, prgIndex_eq, prgIndex_eq, hsum, if_pos rfl, if_pos rfl]
    exact congrArg BusTarget.prg (by omega)

/-- Settles O17: the write sets the one byte that all the mirrors decode to. -/
theorem writeReadsBackThroughMirrors : Obligations.WriteReadsBackThroughMirrors := by
  intro k k' a v s t hwf h
  refine ⟨fun b hb => ?_, fun b hb => peek_of_write8 h hb⟩
  obtain ⟨i, ha, hb⟩ := sameRamByte_iff.mp hb
  obtain ⟨hsize, hram⟩ : t.prgSize = s.prgSize ∧ t.ram = Memory.set s.ram i v := by
    rw [write8_ram ha] at h
    cases h
    exact ⟨rfl, rfl⟩
  have hread := read8_ram (k := k') (s := t) (hsize ▸ hb)
  rw [hram, Memory.get_set_same hwf] at hread
  exact ⟨_, hread⟩

end Sys2Proof.Machine
end

section
/-! SUPPORT. The accesses each operation appends to the history, in order (rules R66, R75). -/

namespace Sys2Proof.Machine

/-! ### Appending accesses to the history -/

/-- From `s` to `t` the history grows by the events of exactly the accesses `l`, in that order (rule R74). -/
def MakesAccesses (l : List (AccessKind × Addr)) (s t : State) : Prop :=
  ∃ events, t.history = s.history ++ events ∧ events.map access = l

namespace MakesAccesses

theorem of_history_eq {s t : State} (h : t.history = s.history) : MakesAccesses [] s t :=
  ⟨[], by rw [h, List.append_nil], rfl⟩

theorem trans {l l' : List (AccessKind × Addr)} {s t u : State} (h : MakesAccesses l s t) (h' : MakesAccesses l' t u) :
    MakesAccesses (l ++ l') s u := by
  obtain ⟨events, hst, hl⟩ := h
  obtain ⟨events', htu, hl'⟩ := h'
  exact ⟨events ++ events', by rw [htu, hst, List.append_assoc], by rw [List.map_append, hl, hl']⟩

/-- What changes the history of the end state no more makes the same accesses. -/
theorem then_history_eq {l : List (AccessKind × Addr)} {s t u : State} (h : MakesAccesses l s t)
    (hu : u.history = t.history) : MakesAccesses l s u := by
  obtain ⟨events, hst, hl⟩ := h
  exact ⟨events, hu.trans hst, hl⟩

end MakesAccesses

theorem makesAccesses_of_read8 {k : AccessKind} {addr : Addr} {s t : State} {m : Byte} (h : read8 k addr s = .ok (m, t)) :
    MakesAccesses [(k, addr)] s t :=
  ⟨[_], congrArg State.history (read8_inv h).2, rfl⟩

theorem makesAccesses_of_write8 {k : AccessKind} {addr : Addr} {s t : State} {v : Byte} (h : write8 k addr v s = .ok t) :
    MakesAccesses [(k, addr)] s t :=
  ⟨[_], congrArg State.history (write8_inv h).2, rfl⟩

theorem makesAccesses_afterPointers (o : Operand) (s : State) :
    MakesAccesses (pointerAccesses o s) s (s.afterPointers o) := by
  cases o
  case indirectX | indirectY => exact ⟨_, rfl, rfl⟩
  all_goals exact .of_history_eq rfl

theorem makesAccesses_of_push8 {v : Byte} {s t : State} (h : push8 v s = .ok t) :
    MakesAccesses [(.stackWrite, stackAddr s.sp)] s t := by
  rw [push8_eq] at h
  cases h
  exact ⟨[_], rfl, rfl⟩

theorem makesAccesses_of_push16 {v : Addr} {s t : State} (h : push16 v s = .ok t) :
    MakesAccesses [(.stackWrite, stackAddr s.sp), (.stackWrite, stackAddr (s.sp - 1))] s t := by
  rw [push16_eq] at h
  cases h
  exact ⟨[_, _], rfl, rfl⟩

theorem makesAccesses_of_pop8 {m : Byte} {s t : State} (h : pop8 s = .ok (m, t)) :
    MakesAccesses [(.stackRead, stackAddr (s.sp + 1))] s t ∧ t.sp = s.sp + 1 := by
  rw [pop8_eq] at h
  cases h
  exact ⟨⟨[_], rfl, rfl⟩, rfl⟩

theorem makesAccesses_of_pop16 {v : Addr} {s t : State} (h : pop16 s = .ok (v, t)) :
    MakesAccesses [(.stackRead, stackAddr (s.sp + 1)), (.stackRead, stackAddr (s.sp + 2))] s t := by
  rw [pop16_eq] at h
  cases h
  exact ⟨[_, _], rfl, rfl⟩

theorem makesAccesses_afterRead (s : State) (addr : Addr) (m : Byte) (q : List PpuAnswer) :
    MakesAccesses [(.dataRead, addr)] s (s.afterRead addr m q) :=
  ⟨[_], rfl, rfl⟩

/-! ### The operand forms of each mnemonic -/

/-- An operand that names a byte of memory: it has an addressing mode, and is no immediate (rules R99 to R107). -/
def OperandInMemory (o : Operand) : Prop := o.mode ≠ .noneAddressing ∧ ∀ b, o ≠ .immediate b

/-- The operand forms the opcode map gives a mnemonic (rules R111, R112). -/
def OperandSuits (m : Mnemonic) (o : Operand) : Prop :=
  match m with
  | .BPL | .BMI | .BVC | .BVS | .BCC | .BCS | .BNE | .BEQ => ∃ r, o = .relative r
  | .JSR => ∃ a, o = .target a
  | .JMP => (∃ a, o = .target a) ∨ ∃ a, o = .indirectTarget a
  | .NOP => o = .implied ∨ o.mode ≠ .noneAddressing
  | .ASL | .LSR | .ROL | .ROR => o = .accumulator ∨ OperandInMemory o
  | .LDA | .LDX | .LDY | .ADC | .SBC | .AND | .ORA | .EOR | .CMP | .CPX | .CPY | .BIT | .LAX | .LAS | .ANC | .ALR | .ARR
  | .AXS | .XAA | .LXA => o.mode ≠ .noneAddressing
  | .STA | .STX | .STY | .SAX | .SHA | .SHX | .SHY | .INC | .DEC | .SLO | .RLA | .SRE | .RRA | .DCP | .ISB =>
    OperandInMemory o
  | .TAS => ∃ a, o = .absoluteY a
  | _ => o = .implied

theorem operandSuits (i : Instr) : OperandSuits i.mnemonic i.operand := by
  cases i <;> simp [OperandSuits, OperandInMemory, Instr.mnemonic, Instr.operand, Instr.row, Operand.mode]

/-! ### The accesses of an instruction on its operand -/

section
variable {i : Instr} {op : Byte} {s t : State}

/-- Of an operand in memory the accesses are its pointer reads and then the data accesses of the mnemonic's class. -/
theorem bodyAccesses_of_inMemory (ho : OperandInMemory i.operand) :
    bodyAccesses i s = pointerAccesses i.operand s ++
      (if isHighStore i.mnemonic then [(.dataWrite, highAddr i.operand s (highRegister i.mnemonic s))]
       else if isStoring i.mnemonic then [(.dataWrite, effectiveAddr i.operand s)]
       else if isModifying i.mnemonic then
         [(.dataRead, effectiveAddr i.operand s), (.dataWrite, effectiveAddr i.operand s)]
       else [(.dataRead, effectiveAddr i.operand s)]) := by
  obtain ⟨hmode, himm⟩ := ho
  unfold bodyAccesses
  cases h : i.operand
  case implied | accumulator | relative | target | indirectTarget => exact absurd (h ▸ rfl) hmode
  case immediate b => exact absurd h (himm b)
  all_goals rfl

theorem class_of_isReading {m : Mnemonic} (h : isReading m = true) :
    isHighStore m = false ∧ isStoring m = false ∧ isModifying m = false := by
  revert h
  cases m <;> decide

theorem class_of_isModifying {m : Mnemonic} (h : isModifying m = true) : isHighStore m = false ∧ isStoring m = false := by
  revert h
  cases m <;> decide

theorem makesAccesses_afterOperand (hclass : isReading i.mnemonic = true) (hmode : i.operand.mode ≠ .noneAddressing)
    (m : Byte) (q : List PpuAnswer) : MakesAccesses (bodyAccesses i s) s (afterOperand i.operand s m q) := by
  by_cases himm : ∃ b, i.operand = .immediate b
  · obtain ⟨b, hb⟩ := himm
    simp only [bodyAccesses, afterOperand, hb]
    exact .of_history_eq rfl
  · have hafter : afterOperand i.operand s m q =
        (s.afterPointers i.operand).afterRead (effectiveAddr i.operand s) m q := by
      cases h : i.operand
      case immediate b => exact absurd ⟨b, h⟩ himm
      all_goals rfl
    obtain ⟨hhigh, hstore, hmodify⟩ := class_of_isReading hclass
    rw [bodyAccesses_of_inMemory ⟨hmode, not_exists.mp himm⟩, hhigh, hstore, hmodify, hafter]
    exact (makesAccesses_afterPointers _ s).trans (makesAccesses_afterRead _ _ m q)

theorem readInstr_makesAccesses {eff : Byte → State → State} (hclass : isReading i.mnemonic = true)
    (hmode : i.operand.mode ≠ .noneAddressing) (h : readInstr op i.operand eff s = .next t)
    (heff : ∀ b u, (eff b u).history = u.history) : MakesAccesses (bodyAccesses i s) s t := by
  obtain ⟨m, q, -, rfl⟩ := readInstr_next hmode h
  exact (makesAccesses_afterOperand hclass hmode m q).then_history_eq (heff m _)

theorem storeInstr_makesAccesses {val : State → Byte} (hstore : isStoring i.mnemonic = true)
    (hhigh : isHighStore i.mnemonic = false) (ho : OperandInMemory i.operand)
    (h : storeInstr op i.operand val s = .next t) : MakesAccesses (bodyAccesses i s) s t := by
  obtain ⟨u, hw, rfl⟩ := storeInstr_next ho.1 h
  rw [bodyAccesses_of_inMemory ho, hhigh, hstore]
  exact ((makesAccesses_afterPointers _ s).trans (makesAccesses_of_write8 hw)).then_history_eq rfl

theorem modifyInstr_makesAccesses {val : Byte → State → Byte} {eff : Byte → State → State}
    (hclass : isModifying i.mnemonic = true) (ho : OperandInMemory i.operand)
    (h : modifyInstr op i.operand val eff s = .next t) (heff : ∀ b u, (eff b u).history = u.history) :
    MakesAccesses (bodyAccesses i s) s t := by
  obtain ⟨m, s1, s2, hr, hw, rfl⟩ := modifyInstr_next ho.1 h
  obtain ⟨hhigh, hstore⟩ := class_of_isModifying hclass
  rw [bodyAccesses_of_inMemory ho, hhigh, hstore, hclass]
  exact ((makesAccesses_afterPointers _ s).trans
    ((makesAccesses_of_read8 hr).trans (makesAccesses_of_write8 hw))).then_history_eq (heff m s2)

/-- A shift accesses memory in its memory forms alone. -/
theorem shift_makesAccesses {f : State → State} {val : Byte → State → Byte} {eff : Byte → State → State}
    (hclass : isModifying i.mnemonic = true) (ho : i.operand = .accumulator ∨ OperandInMemory i.operand)
    (h : (if i.operand = .accumulator then impliedInstr f s else modifyInstr op i.operand val eff s) = .next t)
    (hf : (f s).history = s.history) (heff : ∀ b u, (eff b u).history = u.history) :
    MakesAccesses (bodyAccesses i s) s t := by
  obtain hacc | hmem := ho
  · rw [if_pos hacc] at h
    cases h
    simp only [bodyAccesses, hacc]
    exact .of_history_eq hf
  · rw [if_neg fun hacc : i.operand = .accumulator => hmem.1 (hacc ▸ rfl)] at h
    exact modifyInstr_makesAccesses hclass hmem h heff

theorem storeHigh_makesAccesses {val : State → Byte} (hhigh : isHighStore i.mnemonic = true)
    (ho : OperandInMemory i.operand) (hval : val (s.afterPointers i.operand) = highRegister i.mnemonic s)
    (h : storeHigh op i.operand val s = .next t) : MakesAccesses (bodyAccesses i s) s t := by
  obtain ⟨v, u, rfl, hw, rfl⟩ := storeHigh_next ho.1 h
  rw [bodyAccesses_of_inMemory ho, hhigh, ← hval]
  exact ((makesAccesses_afterPointers _ s).trans (makesAccesses_of_write8 hw)).then_history_eq rfl

/-- TAS loads SP first, which its address and the value it stores do not change (rule R283). -/
theorem tas_makesAccesses {a : Addr} (hm : i.mnemonic = .TAS) (ha : i.operand = .absoluteY a)
    (h : storeHigh op i.operand tasValue (tasEffect s) = .next t) : MakesAccesses (bodyAccesses i s) s t := by
  have ho : OperandInMemory i.operand := by rw [ha]; exact ⟨nofun, nofun⟩
  have hbody : bodyAccesses i (tasEffect s) = bodyAccesses i s := by simp only [bodyAccesses, ha, hm]; rfl
  have hval : tasValue ((tasEffect s).afterPointers i.operand) = highRegister i.mnemonic (tasEffect s) := by
    rw [hm, tasValue, State.afterPointers_sp]; rfl
  have hmakes := storeHigh_makesAccesses (by rw [hm]; rfl) ho hval h
  rwa [hbody] at hmakes

/-! ### Jumps, calls and returns -/

theorem execJmpInd_makesAccesses {a : Addr} (h : execJmpInd a s = .next t) :
    MakesAccesses [(.pointer, a), (.pointer, indirectHigh a)] s t := by
  obtain ⟨⟨lo, s1⟩, h1, h⟩ := exists_of_bind_ok (complete_next h)
  obtain ⟨⟨hi, s2⟩, h2, h⟩ := exists_of_bind_ok h
  cases h
  exact ((makesAccesses_of_read8 h1).trans (makesAccesses_of_read8 h2)).then_history_eq rfl

theorem execJsr_makesAccesses {a : Addr} (h : execJsr a s = .next t) :
    MakesAccesses [(.stackWrite, stackAddr s.sp), (.stackWrite, stackAddr (s.sp - 1))] s t := by
  obtain ⟨u, h1, h⟩ := exists_of_bind_ok (complete_next h)
  cases h
  exact (makesAccesses_of_push16 h1).then_history_eq rfl

theorem execRts_makesAccesses (h : execRts s = .next t) :
    MakesAccesses [(.stackRead, stackAddr (s.sp + 1)), (.stackRead, stackAddr (s.sp + 2))] s t := by
  obtain ⟨⟨v, u⟩, h1, h⟩ := exists_of_bind_ok (complete_next h)
  cases h
  exact (makesAccesses_of_pop16 h1).then_history_eq rfl

theorem execRti_makesAccesses (h : execRti s = .next t) :
    MakesAccesses [(.stackRead, stackAddr (s.sp + 1)), (.stackRead, stackAddr (s.sp + 2)),
      (.stackRead, stackAddr (s.sp + 3))] s t := by
  obtain ⟨⟨b, u⟩, h1, h⟩ := exists_of_bind_ok (complete_next h)
  obtain ⟨⟨v, w⟩, h2, h⟩ := exists_of_bind_ok h
  cases h
  obtain ⟨hfirst, hsp⟩ := makesAccesses_of_pop8 h1
  have hrest : MakesAccesses [(.stackRead, stackAddr (u.sp + 1)), (.stackRead, stackAddr (u.sp + 2))] u w :=
    (makesAccesses_of_pop16 h2 :)
  have hsp2 : u.sp + 1 = s.sp + 2 := by rw [hsp]; bv_omega
  have hsp3 : u.sp + 2 = s.sp + 3 := by rw [hsp]; bv_omega
  rw [hsp2, hsp3] at hrest
  exact (hfirst.trans hrest).then_history_eq rfl

/-- PLA and PLP (rules R144, R145). -/
theorem pull_makesAccesses (h : execPla s = .next t ∨ execPlp s = .next t) :
    MakesAccesses [(.stackRead, stackAddr (s.sp + 1))] s t := by
  rcases h with h | h
  all_goals
    obtain ⟨⟨b, u⟩, h1, h⟩ := exists_of_bind_ok (complete_next h)
    cases h
    exact (makesAccesses_of_pop8 h1).1.then_history_eq rfl

end

/-! ### The instructions -/

/-- The body of every instruction makes the accesses of its rule (rules R66, R75). -/
theorem exec_makesAccesses {i : Instr} {s t : State} (h : exec i s = .next t) :
    MakesAccesses (bodyAccesses i s) s t := by
  have hex : execAs i.mnemonic i.opcode i.operand s = .next t := exec_eq i s ▸ h
  have ho := operandSuits i
  generalize hm : i.mnemonic = m at hex ho
  cases m
  case ORA | ANC | AND | BIT | EOR | ALR | ADC | ARR | LDY | LDA | LDX | LAX | LAS | CPY | CMP | AXS | CPX | SBC =>
    exact readInstr_makesAccesses (by rw [hm]; rfl) ho hex (fun _ _ => rfl)
  case XAA | LXA => exact readInstr_makesAccesses (by rw [hm]; rfl) ho (ifAdmitted_next hex) (fun _ _ => rfl)
  case SLO | RLA | SRE | RRA | DCP | ISB | DEC | INC =>
    exact modifyInstr_makesAccesses (by rw [hm]; rfl) ho hex (fun _ _ => rfl)
  case ASL | ROL | LSR | ROR => exact shift_makesAccesses (by rw [hm]; rfl) ho hex rfl (fun _ _ => rfl)
  case STA | SAX | STY | STX => exact storeInstr_makesAccesses (by rw [hm]; rfl) (by rw [hm]; rfl) ho hex
  case SHA | SHY | SHX =>
    refine storeHigh_makesAccesses (by rw [hm]; rfl) ho ?_ (ifAdmitted_next hex)
    simp only [shaValue, shyValue, shxValue, State.afterPointers_a, State.afterPointers_x, State.afterPointers_y, hm,
      highRegister]
  case TAS =>
    obtain ⟨a, ha⟩ := ho
    exact tas_makesAccesses hm ha (ifAdmitted_next hex)
  case NOP =>
    obtain himp | hmode := ho
    · simp only [execAs, himp, if_true] at hex
      cases hex
      simp only [bodyAccesses, himp, hm]
      exact .of_history_eq rfl
    · rw [execAs, if_neg fun himp : i.operand = .implied => hmode (himp ▸ rfl)] at hex
      exact readInstr_makesAccesses (by rw [hm]; rfl) hmode hex (fun _ _ => rfl)
  case BPL | BMI | BVC | BVS | BCC | BCS | BNE | BEQ =>
    obtain ⟨r, hr⟩ := ho
    rw [hr] at hex
    cases hex
    simp only [bodyAccesses, hr]
    exact .of_history_eq rfl
  case JSR =>
    obtain ⟨a, ha⟩ := ho
    rw [ha] at hex
    simp only [bodyAccesses, ha, hm]
    exact execJsr_makesAccesses hex
  case JMP =>
    obtain ⟨a, ha⟩ | ⟨a, ha⟩ := ho <;> rw [ha] at hex <;> simp only [bodyAccesses, ha, hm]
    · cases hex
      exact .of_history_eq rfl
    · exact execJmpInd_makesAccesses hex
  all_goals simp only [bodyAccesses, show i.operand = .implied from ho, hm]
  case PHP | PHA => exact makesAccesses_of_push8 (complete_next hex)
  case PLP => exact pull_makesAccesses (.inr hex)
  case PLA => exact pull_makesAccesses (.inl hex)
  case RTI => exact execRti_makesAccesses hex
  case RTS => exact execRts_makesAccesses hex
  case BRK =>
    cases hex
    exact .of_history_eq (registerEffect_history (m := .BRK) (o := .implied) (b := 0))
  all_goals
    cases hex
    exact .of_history_eq rfl

/-- Settles O56, by mnemonic. -/
theorem bodyAccessesInOrder : Obligations.BodyAccessesInOrder := by
  intro i s t h
  obtain ⟨events, hhistory, haccess⟩ := exec_makesAccesses h
  rw [hhistory, List.map_append, haccess]
  exact ⟨List.prefix_append _ _, rfl⟩

end Sys2Proof.Machine
end

section
/-! SUPPORT. Decoding and encoding agree: the form of an opcode byte builds, from the operand bytes, the instruction that has
them (rules R90, R91, R96). -/

namespace Sys2Proof

/-! ### From an instruction to its form -/

/-- `Builds f i`: the form `f` makes `i` of some operand bytes. -/
inductive Builds : Form → Instr → Prop where
  | implied (i : Instr) : Builds (.implied i) i
  | immediate (k : Byte → Instr) (b : Byte) : Builds (.immediate k) (k b)
  | byte (k : Byte → Instr) (b : Byte) : Builds (.byte k) (k b)
  | word (k : Addr → Instr) (a : Addr) : Builds (.word k) (k a)

/-- Every instruction is in the table, at its opcode byte. -/
theorem exists_form_builds (i : Instr) : ∃ f, form i.opcode = some f ∧ Builds f i := by
  cases i
  all_goals
    simp only [Instr.opcode, Instr.row]
    refine ⟨_, rfl, ?_⟩
    constructor

/-- A form that builds an instruction makes it of the instruction's own operand bytes, whatever follows them. -/
theorem decodeOperand_bytes {f : Form} {i : Instr} (hf : FormOk i.opcode f) (hb : Builds f i) (rest : List Byte) :
    decodeOperand f (i.operand.bytes ++ rest) = .instr i rest := by
  cases hb with
  | implied =>
    obtain ⟨-, hbytes⟩ := hf
    rw [hbytes]; rfl
  | immediate k b =>
    rw [(hf b).2]; rfl
  | byte k b =>
    obtain ⟨-, hbytes, -⟩ := hf b
    rw [hbytes]; rfl
  | word k a =>
    obtain ⟨-, hbytes⟩ := hf a
    rw [hbytes]
    exact congrArg (fun w => Decoded.instr (k w) rest) (word16_hi8_lo8 a)

theorem decode_cons {op : Byte} {f : Form} (hf : form op = some f) (bytes : List Byte) :
    decode (op :: bytes) = decodeOperand f bytes := by
  simp only [decode, hf]

/-! ### From bytes to their instruction -/

/-- What a form makes of bytes has the form's opcode byte, and its operand bytes are the ones taken. -/
theorem decodeOperand_instr {op : Byte} {f : Form} (hf : FormOk op f) {bytes rest : List Byte} {i : Instr}
    (h : decodeOperand f bytes = .instr i rest) : i.opcode = op ∧ bytes = i.operand.bytes ++ rest := by
  unfold decodeOperand at h
  split at h
  · cases h
    obtain ⟨hop, hbytes⟩ := hf
    exact ⟨hop, by rw [hbytes]; rfl⟩
  · cases h
    obtain ⟨hop, hbytes⟩ := hf _
    exact ⟨hop, by rw [hbytes]; rfl⟩
  · cases h
    obtain ⟨hop, hbytes, -⟩ := hf _
    exact ⟨hop, by rw [hbytes]; rfl⟩
  · cases h
    obtain ⟨hop, hbytes⟩ := hf _
    exact ⟨hop, by rw [hbytes, lo8_word16, hi8_word16]; rfl⟩
  all_goals cases h

theorem exists_form (op : Byte) : ∃ f, form op = some f := Option.isSome_iff_exists.mp (form_isSome op)

/-- Bytes that decode begin with the opcode byte of the instruction and go on with its operand bytes. -/
theorem decode_cons_instr {op : Byte} {bytes rest : List Byte} {i : Instr} (h : decode (op :: bytes) = .instr i rest) :
    i.opcode = op ∧ bytes = i.operand.bytes ++ rest := by
  obtain ⟨f, hf⟩ := exists_form op
  exact decodeOperand_instr (form_ok hf) (decode_cons hf bytes ▸ h)

/-! ### The statements about the decoder -/

/-- Settles O10: the instruction's form makes it of its own operand bytes. -/
theorem decodeOfEncodeIsIdentity : Obligations.DecodeOfEncodeIsIdentity := by
  intro i rest _
  obtain ⟨f, hf, hb⟩ := exists_form_builds i
  rw [encode, List.cons_append, decode_cons hf]
  exact decodeOperand_bytes (form_ok hf) hb rest

/-- Settles O11: the opcode byte and the operand bytes that decoding takes are those of the instruction. -/
theorem encodeOfDecodeIsIdentity : Obligations.EncodeOfDecodeIsIdentity := by
  intro bytes rest i h
  cases bytes with
  | nil => cases h
  | cons op bytes =>
    obtain ⟨hop, hbytes⟩ := decode_cons_instr h
    rw [encode, hop, hbytes, List.cons_append]

/-- Settles O12: every byte has a form, and two bytes are enough for each. -/
theorem everyOpcodeByteDecodes : Obligations.EveryOpcodeByteDecodes := by
  intro op b c
  obtain ⟨f, hf⟩ := exists_form op
  obtain ⟨i, rest, h⟩ : ∃ i rest, decodeOperand f [b, c] = .instr i rest := by cases f <;> exact ⟨_, _, rfl⟩
  exact ⟨i, rest, (decode_cons hf _).trans h, (decodeOperand_instr (form_ok hf) h).1⟩

/-- Settles O9, by decoding each word. -/
theorem decodedWordsOfTheMap : Obligations.DecodedWordsOfTheMap := by
  unfold Obligations.DecodedWordsOfTheMap
  decide

end Sys2Proof
end

section
/-! SUPPORT. What a fetch reads (rules R75, R90, R95): the bytes of the instruction it decodes, in order, and nothing else. -/

namespace Sys2Proof.Machine

/-! ### The operand bytes -/

/-- `t` is `s` after reads, one for each event of `l`, in that order, whether a register of the PPU answers them or not. -/
def ReadsInOrder (l : List BusEvent) (s t : State) : Prop :=
  ∃ events, t = { s with history := s.history ++ events, ppuScript := t.ppuScript } ∧
    events.map (fun e => { e with call := none }) = l

theorem readsInOrder_of_read8 {k : AccessKind} {addr : Addr} {s t : State} {b : Byte} (h : read8 k addr s = .ok (b, t)) :
    ReadsInOrder [{ kind := k, addr := addr, value := some b, call := none }] s t :=
  ⟨[_], (read8_inv h).2, rfl⟩

theorem ReadsInOrder.trans {l l' : List BusEvent} {s t u : State} (h : ReadsInOrder l s t) (h' : ReadsInOrder l' t u) :
    ReadsInOrder (l ++ l') s u := by
  obtain ⟨events, hst, hl⟩ := h
  obtain ⟨events', htu, hl'⟩ := h'
  refine ⟨events ++ events', ?_, by rw [List.map_append, hl, hl']⟩
  rw [htu, hst]
  simp only [List.append_assoc]

theorem ReadsInOrder.map_history {β : Type} {l : List BusEvent} {s t : State} (h : ReadsInOrder l s t) (g : BusEvent → β)
    (hg : ∀ e, g { e with call := none } = g e) : t.history.map g = s.history.map g ++ l.map g := by
  obtain ⟨events, ht, rfl⟩ := h
  rw [ht, List.map_append, List.map_map]
  exact congrArg _ (List.map_congr_left fun e _ => (hg e).symm)

/-- The events of reading the operand bytes of a form, `addr` being the address of the first (rule R75, assumption log 13). -/
def formEvents (f : Form) (bytes : List Byte) (addr : Addr) : List BusEvent :=
  match f, bytes with
  | .immediate _, [b] => [{ kind := .dataRead, addr := addr, value := some b, call := none }]
  | .byte _, [b] => [{ kind := .operand, addr := addr, value := some b, call := none }]
  | .word _, [l, h] =>
    [{ kind := .operand, addr := addr, value := some l, call := none },
     { kind := .operand, addr := addr + 1, value := some h, call := none }]
  | _, _ => []

section
variable {f : Form} {i : Instr} {s t : State} {bytes : List Byte}

/-- All the read of the operand bytes can have done. -/
theorem fetchOperand_ok (h : fetchOperand f s = .ok (bytes, t)) :
    ReadsInOrder (formEvents f bytes s.pc) s t ∧ ∃ j, decodeOperand f bytes = .instr j [] := by
  cases f with
  | implied j =>
    cases h
    exact ⟨⟨[], by rw [List.append_nil], rfl⟩, j, rfl⟩
  | immediate k | byte k =>
    obtain ⟨⟨b, u⟩, h1, h⟩ := exists_of_bind_ok h
    cases h
    exact ⟨readsInOrder_of_read8 h1, k b, rfl⟩
  | word k =>
    obtain ⟨⟨lo, u⟩, h1, h⟩ := exists_of_bind_ok h
    obtain ⟨⟨hi, w⟩, h2, h⟩ := exists_of_bind_ok h
    cases h
    have hpc : u.pc = s.pc := by rw [(read8_inv h1).2]
    rw [hpc] at h2
    exact ⟨(readsInOrder_of_read8 h1).trans (readsInOrder_of_read8 h2), k (word16 hi lo), rfl⟩

/-- The events of the encoding are the opcode fetch and the reads of its form. -/
theorem fetchEvents_eq (hf : FormOk i.opcode f) (hb : Builds f i) (pc : Addr) :
    fetchEvents i pc = { kind := .fetch, addr := pc, value := some i.opcode, call := none } ::
      formEvents f i.operand.bytes (pc + 1) := by
  unfold fetchEvents
  cases hb with
  | implied =>
    obtain ⟨-, hbytes⟩ := hf
    split
    · rename_i b ho
      simp [ho, Operand.bytes] at hbytes
    · simp only [hbytes]; rfl
  | immediate k b =>
    obtain ⟨-, ho⟩ := hf b
    simp only [ho]; rfl
  | byte k b =>
    obtain ⟨-, hbytes, himm⟩ := hf b
    split
    · rename_i b' ho
      rw [ho] at hbytes himm
      cases hbytes
      exact absurd rfl himm
    · simp only [hbytes]; rfl
  | word k a =>
    obtain ⟨-, hbytes⟩ := hf a
    have hpc : pc + 1 + 1 = pc + 2 := by bv_omega
    split
    · rename_i b ho
      simp [ho, Operand.bytes] at hbytes
    · simp only [hbytes, formEvents, hpc]

end

/-! ### The whole fetch -/

/-- A fetch decodes an admitted instruction whose opcode byte and then operand bytes it reads (rules R95, R279). -/
theorem fetch_eq_decoded_iff {i : Instr} {s t : State} : fetch s = .decoded i t ↔
    admitted i s = true ∧ ∃ u f, read8 .fetch s.pc s = .ok (i.opcode, u) ∧ form i.opcode = some f ∧
      fetchOperand f { u with pc := u.pc + 1 } = .ok (i.operand.bytes, t) := by
  constructor
  · intro h
    unfold fetch at h
    split at h
    · cases h
    rename_i op u hop
    split at h
    · cases h
    rename_i f hf
    split at h
    · cases h
    rename_i hadm
    split at h
    · cases h
    rename_i bytes w hbytes
    split at h
    · rename_i j rest hdec
      cases h
      obtain ⟨j, hj⟩ := (fetchOperand_ok hbytes).2
      obtain ⟨rfl, rfl⟩ : j = i ∧ [] = rest := by simpa [decode_cons hf, hj] using hdec
      obtain ⟨rfl, rfl⟩ := decode_cons_instr hdec
      rw [List.append_nil] at hbytes
      exact ⟨by simpa [admitted, imp_iff_not_or] using hadm, u, f, hop, hf, hbytes⟩
    · cases h
  · rintro ⟨hadm, u, f, hop, hf, hbytes⟩
    have hdec : decode (i.opcode :: i.operand.bytes) = .instr i [] := by
      have := decodeOfEncodeIsIdentity i [] rfl
      rwa [List.append_nil] at this
    have hadm : (isUnstable i.opcode && !s.config.admitUnstable) = false := by
      rwa [admitted, ← Bool.not_eq_false', Bool.not_or, Bool.not_not] at hadm
    simp only [fetch, hop, hf, hadm, hbytes, hdec, Bool.false_eq_true, if_false]

theorem step_of_fetch {i : Instr} {s t : State} (hrun : s.status = .running) (h : fetch s = .decoded i t) :
    step s = exec i t := by
  simp only [step, hrun, h]

/-- All a fetch that decodes an instruction can have done: `PC` moves past the opcode byte, and the encoding is read. -/
theorem fetch_decoded {i : Instr} {s t : State} (h : fetch s = .decoded i t) :
    ReadsInOrder (fetchEvents i s.pc) { s with pc := s.pc + 1 } t := by
  obtain ⟨-, u, f, hop, hf, hbytes⟩ := fetch_eq_decoded_iff.mp h
  obtain ⟨f', hf', hb⟩ := exists_form_builds i
  obtain rfl : f' = f := Option.some.inj (hf'.symm.trans hf)
  obtain ⟨hu, -⟩ := fetchOperand_ok hbytes
  have hpc : u.pc = s.pc := by rw [(read8_inv hop).2]
  obtain ⟨events, hsu, hev⟩ := readsInOrder_of_read8 hop
  have hread : ReadsInOrder [{ kind := .fetch, addr := s.pc, value := some i.opcode, call := none }]
      { s with pc := s.pc + 1 } { u with pc := u.pc + 1 } := ⟨events, by rw [hsu], hev⟩
  rw [fetchEvents_eq (form_ok hf) hb]
  rw [hpc] at hread hu
  exact hread.trans hu

theorem fetchEvents_value (i : Instr) (pc : Addr) : (fetchEvents i pc).map (·.value) = (encode i).map some := by
  unfold fetchEvents encode
  cases i.operand <;> rfl

/-- Settles O6: the reads of a fetch are those of the opcode byte and of its form. -/
theorem fetchReadsEncodingInOrder : Obligations.FetchReadsEncodingInOrder := by
  intro s t i h
  have hreads := fetch_decoded h
  obtain ⟨_, ht, -⟩ := fetch_decoded h
  refine ⟨by rw [ht], ?_, hreads.map_history access fun _ => rfl, (fetch_eq_decoded_iff.mp h).1,
    fun hrun => step_of_fetch hrun h⟩
  rw [← fetchEvents_value i s.pc]
  exact hreads.map_history (·.value) fun _ => rfl

/-! ### Fetching from memory that an observer sees -/

theorem read8_of_peek {k : AccessKind} {addr : Addr} {s : State} {m : Byte} (h : s.peek addr = some m) :
    read8 k addr s = .ok (m, s.log k addr (some m) none) := by
  obtain ⟨hr, hcall⟩ := readsAt_of_peek h
  rw [read8_of_readsAt hr, hcall]
  rfl

/-- Where an observer sees the operand bytes of a form, reading them is those events and nothing else. -/
theorem fetchOperand_of_peek {f : Form} {bytes : List Byte} {j : Instr} {s : State}
    (hdec : decodeOperand f bytes = .instr j []) (hpeek : ∀ e ∈ formEvents f bytes s.pc, s.peek e.addr = e.value) :
    fetchOperand f s = .ok (bytes, { s with history := s.history ++ formEvents f bytes s.pc }) := by
  unfold decodeOperand at hdec
  split at hdec
  · cases hdec
    simp [fetchOperand, formEvents]
  · cases hdec
    rw [fetchOperand, read8_of_peek (hpeek _ (List.mem_cons_self ..))]; rfl
  · cases hdec
    rw [fetchOperand, read8_of_peek (hpeek _ (List.mem_cons_self ..))]; rfl
  · cases hdec
    simp only [formEvents, List.forall_mem_cons] at hpeek
    obtain ⟨hlo, hhi, -⟩ := hpeek
    rename_i lo hi
    have hhi' : read8 .operand (s.pc + 1) (s.log .operand s.pc (some lo) none) = .ok (hi, _) := read8_of_peek hhi
    simp only [fetchOperand, read8_of_peek hlo, bind, Except.bind, State.log_pc, hhi']
    simp [State.log, formEvents]
  all_goals cases hdec

theorem peek_of_instrAtPc {i : Instr} {s : State} (h : InstrAtPc i s) :
    ∀ e ∈ fetchEvents i s.pc, s.peek e.addr = e.value := by
  unfold InstrAtPc encode at h
  unfold fetchEvents
  cases ho : i.operand <;> simp_all [Operand.bytes]

/-- A fetch of an admitted instruction that stands at `PC` decodes it. -/
theorem fetch_of_instrAtPc {i : Instr} {s : State} (hat : InstrAtPc i s) (hadm : admitted i s = true) :
    fetch s = .decoded i (s.fetched i) := by
  obtain ⟨f, hf, hb⟩ := exists_form_builds i
  have hpeek := peek_of_instrAtPc hat
  have hdec := decodeOperand_bytes (form_ok hf) hb []
  rw [List.append_nil] at hdec
  rw [fetchEvents_eq (form_ok hf) hb, List.forall_mem_cons] at hpeek
  obtain ⟨hop, hoperand⟩ := hpeek
  refine fetch_eq_decoded_iff.mpr ⟨hadm, _, f, read8_of_peek hop, hf, (fetchOperand_of_peek hdec hoperand).trans ?_⟩
  simp only [State.fetched, fetchEvents_eq (form_ok hf) hb, State.log, List.append_assoc]
  rfl

/-- Settles O5: the fetch finds the bytes that the observer sees. -/
theorem stepRunsDecodedInstruction : Obligations.StepRunsDecodedInstruction :=
  fun _ _ hrun hat hadm => step_of_fetch hrun (fetch_of_instrAtPc hat hadm)

end Sys2Proof.Machine
end

section
/-! SUPPORT. Every fatal error is one of the bus: no step raises UnknownOpcode or NoneAddressingResolved (rules R96, R108). -/

namespace Sys2Proof.Machine

/-- A fatal kind that a bus access raises (rules R315 to R318). -/
def IsBusKind (k : FatalKind) : Prop := k ≠ .unknownOpcode ∧ k ≠ .noneAddressingResolved

/-- A body's part that fails, if at all, at a bus access. -/
def FailsOnBus {α : Type} (x : Except BusFault α) : Prop := ∀ f, x = .error f → IsBusKind f.kind

/-- A result that is, if a fatal error, one of a bus access. -/
def FaultsOnBus (r : Result) : Prop := ∀ f, r = .fault f → IsBusKind f.kind

theorem failsOnBus_ok {α : Type} (a : α) : FailsOnBus (.ok a) := fun _ h => nomatch h

theorem faultsOnBus_next (t : State) : FaultsOnBus (.next t) := fun _ h => nomatch h

theorem faultsOnBus_refused (e : Refusal) : FaultsOnBus (.refused e) := fun _ h => nomatch h

theorem failsOnBus_bind {α β : Type} {x : Except BusFault α} {k : α → Except BusFault β} (hx : FailsOnBus x)
    (hk : ∀ a, FailsOnBus (k a)) : FailsOnBus (x >>= k) := by
  cases x with
  | ok a => exact hk a
  | error f => exact fun _ h => by cases h; exact hx f rfl

theorem isBusKind_of_readStops {s : State} {addr : Addr} {k : FatalKind} (h : ReadStops s addr k) : IsBusKind k := by
  unfold ReadStops at h
  split at h
  case h_4 =>
    obtain ⟨-, rfl⟩ | ⟨_, -, -, rfl⟩ := h <;> exact ⟨nofun, nofun⟩
  all_goals exact h.elim

theorem isBusKind_of_writeStops {s : State} {addr : Addr} {v : Byte} {k : FatalKind} (h : WriteStops s addr v k) :
    IsBusKind k := by
  unfold WriteStops at h
  split at h
  case h_2 => rw [h]; exact ⟨nofun, nofun⟩
  case h_4 =>
    obtain ⟨-, rfl⟩ | ⟨_, -, -, rfl⟩ := h <;> exact ⟨nofun, nofun⟩
  all_goals exact h.elim

theorem failsOnBus_read8 (k : AccessKind) (addr : Addr) (s : State) : FailsOnBus (read8 k addr s) :=
  fun _ h => isBusKind_of_readStops (read8_error h).1

theorem failsOnBus_write8 (k : AccessKind) (addr : Addr) (v : Byte) (s : State) : FailsOnBus (write8 k addr v s) :=
  fun _ h => isBusKind_of_writeStops (write8_error h).1

theorem failsOnBus_readOperand {o : Operand} (hmode : o.mode ≠ .noneAddressing) (s : State) :
    FailsOnBus (readOperand o s) := by
  obtain ⟨m, q, -, h⟩ | ⟨f, h, hstop⟩ := readOperand_cases hmode s
  · rw [h]
    exact failsOnBus_ok _
  · intro g hg
    obtain rfl : f = g := Except.error.inj (h.symm.trans hg)
    unfold OperandStops at hstop
    split at hstop
    · exact hstop.elim
    · exact isBusKind_of_readStops hstop

theorem Fault.kind_ofKind (k : FatalKind) (r : FatalRecord) (h : List BusEvent) : (Fault.ofKind k r h).kind = k := by
  cases k <;> rfl

theorem faultsOnBus_raiseFatal {f : BusFault} (hf : IsBusKind f.kind) (opaddr : Addr) (op : Option Byte) :
    FaultsOnBus (raiseFatal opaddr op f) := by
  intro g h
  cases h
  rwa [Fault.kind_ofKind]

theorem faultsOnBus_complete {x : Except BusFault State} (hx : FailsOnBus x) (op : Byte) (s : State) :
    FaultsOnBus (complete op s x) := by
  cases x with
  | ok t => exact faultsOnBus_next t
  | error f => exact faultsOnBus_raiseFatal (hx f rfl) _ _

theorem faultsOnBus_ifAdmitted {r : Result} (hr : FaultsOnBus r) (op : Byte) (s : State) :
    FaultsOnBus (ifAdmitted op r s) := by
  unfold ifAdmitted
  split
  · exact hr
  · exact faultsOnBus_refused _

/-! ### The operations on an operand -/

section
variable {op : Byte} {o : Operand} (hmode : o.mode ≠ .noneAddressing)
include hmode

theorem readInstr_faultsOnBus (eff : Byte → State → State) (s : State) : FaultsOnBus (readInstr op o eff s) :=
  faultsOnBus_complete (failsOnBus_bind (failsOnBus_readOperand hmode s) fun _ => failsOnBus_ok _) _ _

theorem storeInstr_faultsOnBus (val : State → Byte) (s : State) : FaultsOnBus (storeInstr op o val s) := by
  rw [storeInstr_eq hmode]
  exact faultsOnBus_complete (failsOnBus_bind (failsOnBus_write8 _ _ _ _) fun _ => failsOnBus_ok _) _ _

theorem modifyInstr_faultsOnBus (val : Byte → State → Byte) (eff : Byte → State → State) (s : State) :
    FaultsOnBus (modifyInstr op o val eff s) := by
  rw [modifyInstr_eq hmode]
  exact faultsOnBus_complete (failsOnBus_bind (failsOnBus_read8 _ _ _) fun _ =>
    failsOnBus_bind (failsOnBus_write8 _ _ _ _) fun _ => failsOnBus_ok _) _ _

theorem storeHigh_faultsOnBus (val : State → Byte) (s : State) : FaultsOnBus (storeHigh op o val s) := by
  rw [storeHigh_eq hmode]
  exact faultsOnBus_complete (failsOnBus_bind (failsOnBus_write8 _ _ _ _) fun _ => failsOnBus_ok _) _ _

end

/-! ### The instructions and the fetch -/

theorem accumulator_ne_of_mode {o : Operand} (hmode : o.mode ≠ .noneAddressing) : o ≠ .accumulator :=
  fun h => hmode (h ▸ rfl)

/-- The instructions that resolve an address have an operand with an addressing mode (rule R108). -/
theorem exec_faultsOnBus (i : Instr) (s : State) : FaultsOnBus (exec i s) := by
  intro f h
  rw [exec_eq] at h
  have ho := operandSuits i
  generalize i.mnemonic = m at ho h
  generalize i.operand = o at ho h
  cases m
  case ORA | ANC | AND | BIT | EOR | ALR | ADC | ARR | LDY | LDA | LDX | LAX | LAS | CPY | CMP | AXS | CPX | SBC =>
    exact readInstr_faultsOnBus ho _ s f h
  case XAA | LXA => exact faultsOnBus_ifAdmitted (readInstr_faultsOnBus ho _ s) _ s f h
  case SLO | RLA | SRE | RRA | DCP | ISB | DEC | INC => exact modifyInstr_faultsOnBus ho.1 _ _ s f h
  case ASL | ROL | LSR | ROR =>
    obtain rfl | ⟨hmode, -⟩ := ho
    · cases h
    · rw [execAs, if_neg (accumulator_ne_of_mode hmode)] at h
      exact modifyInstr_faultsOnBus hmode _ _ s f h
  case STA | SAX | STY | STX => exact storeInstr_faultsOnBus ho.1 _ s f h
  case SHA | SHY | SHX => exact faultsOnBus_ifAdmitted (storeHigh_faultsOnBus ho.1 _ s) _ s f h
  case TAS =>
    obtain ⟨a, rfl⟩ := ho
    exact faultsOnBus_ifAdmitted (storeHigh_faultsOnBus (o := .absoluteY a) nofun _ _) _ s f h
  case NOP =>
    obtain rfl | hmode := ho
    · cases h
    · rw [execAs, if_neg fun himp : o = .implied => hmode (himp ▸ rfl)] at h
      exact readInstr_faultsOnBus hmode _ s f h
  case BPL | BMI | BVC | BVS | BCC | BCS | BNE | BEQ =>
    obtain ⟨r, rfl⟩ := ho
    cases h
  case JSR =>
    obtain ⟨a, rfl⟩ := ho
    simp only [execAs, execJsr, push16_eq] at h
    cases h
  case JMP =>
    obtain ⟨a, rfl⟩ | ⟨a, rfl⟩ := ho
    · cases h
    · exact faultsOnBus_complete (failsOnBus_bind (failsOnBus_read8 _ _ _) fun _ =>
        failsOnBus_bind (failsOnBus_read8 _ _ _) fun _ => failsOnBus_ok _) _ _ f h
  case PHP | PHA =>
    simp only [execAs, execPhp, execPha, push8_eq] at h
    cases h
  case PLP | PLA =>
    simp only [execAs, execPlp, execPla, pop8_eq] at h
    cases h
  case RTI =>
    simp only [execAs, execRti, pop8_eq, pop16_eq, bind, Except.bind] at h
    cases h
  case RTS =>
    simp only [execAs, execRts, pop16_eq] at h
    cases h
  all_goals cases h

theorem failsOnBus_fetchOperand (f : Form) (s : State) : FailsOnBus (fetchOperand f s) := by
  cases f with
  | implied => exact failsOnBus_ok _
  | immediate | byte => exact failsOnBus_bind (failsOnBus_read8 _ _ _) fun _ => failsOnBus_ok _
  | word =>
    exact failsOnBus_bind (failsOnBus_read8 _ _ _) fun _ =>
      failsOnBus_bind (failsOnBus_read8 _ _ _) fun _ => failsOnBus_ok _

/-- Every opcode byte has a form, and the operand bytes of a form decode (rule R96). -/
theorem fetch_stop_faultsOnBus {s : State} {r : Result} (h : fetch s = .stop r) : FaultsOnBus r := by
  unfold fetch at h
  split at h
  · rename_i f hop
    cases h
    exact faultsOnBus_raiseFatal (failsOnBus_read8 _ _ _ f hop) _ _
  rename_i op u hop
  obtain ⟨f, hf⟩ := exists_form op
  simp only [hf] at h
  split at h
  · cases h; exact faultsOnBus_refused _
  split at h
  · rename_i f' hbytes
    cases h
    exact faultsOnBus_raiseFatal (failsOnBus_fetchOperand _ _ f' hbytes) _ _
  · rename_i bytes w hbytes
    obtain ⟨j, hj⟩ := (fetchOperand_ok hbytes).2
    rw [decode_cons hf, hj] at h
    cases h

theorem step_faultsOnBus (s : State) : FaultsOnBus (step s) := by
  unfold step
  split
  · split
    · exact exec_faultsOnBus _ _
    · rename_i r h
      exact fetch_stop_faultsOnBus h
  all_goals exact faultsOnBus_refused _

/-- Settles O13: a fatal error of a step is one of the bus. -/
theorem unreachableFatalKindsAreNeverRaised : Obligations.UnreachableFatalKindsAreNeverRaised := step_faultsOnBus

end Sys2Proof.Machine
end

section
/-! SUPPORT. What an instruction leaves of memory and of `PC` (rules R97, R98, R111): which bytes it can write, and the generic
advance. -/

namespace Sys2Proof.Machine

/-! ### Memory but for some bytes -/

/-- `PC` and memory are in `t` as in `s`, but for the bytes of RAM that the addresses `as` name. -/
structure LeavesBut (as : List Addr) (s t : State) : Prop where
  pc : t.pc = s.pc
  ram : as = [] → t.ram = s.ram
  prgSize : t.prgSize = s.prgSize
  peek : ∀ b, (∀ a ∈ as, sameRamByte s.prgSize a b = false) → t.peek b = s.peek b

namespace LeavesBut

theorem of_eq {s t : State} (hpc : t.pc = s.pc) (hram : t.ram = s.ram) (hprg : t.prg = s.prg)
    (hsize : t.prgSize = s.prgSize) : LeavesBut [] s t :=
  ⟨hpc, fun _ => hram, hsize, fun b _ => State.peek_congr hram hprg hsize b⟩

theorem trans {as as' : List Addr} {s t u : State} (h : LeavesBut as s t) (h' : LeavesBut as' t u) :
    LeavesBut (as ++ as') s u where
  pc := h'.pc.trans h.pc
  ram hnil := (h'.ram (List.append_eq_nil_iff.mp hnil).2).trans (h.ram (List.append_eq_nil_iff.mp hnil).1)
  prgSize := h'.prgSize.trans h.prgSize
  peek b hb := by
    rw [List.forall_mem_append] at hb
    obtain ⟨hb, hb'⟩ := hb
    exact (h'.peek b (h.prgSize ▸ hb')).trans (h.peek b hb)

theorem withPc {as : List Addr} {s t : State} (h : LeavesBut as s t) (pc : Addr) :
    LeavesBut as { s with pc := pc } { t with pc := pc } :=
  ⟨rfl, h.ram, h.prgSize, h.peek⟩

theorem advance {as : List Addr} {s t : State} (h : LeavesBut as s t) (n : Addr) :
    LeavesBut as { s with pc := s.pc + n } (t.advance n) := by
  rw [State.advance, h.pc]
  exact h.withPc _

end LeavesBut

theorem leaves_of_read8 {k : AccessKind} {addr : Addr} {s t : State} {m : Byte} (h : read8 k addr s = .ok (m, t)) :
    LeavesBut [] s t := by
  rw [(read8_inv h).2]
  exact .of_eq rfl rfl rfl rfl

theorem leavesBut_of_write8 {k : AccessKind} {addr : Addr} {s t : State} {v : Byte} (h : write8 k addr v s = .ok t) :
    LeavesBut [addr] s t where
  pc := by rw [(write8_inv h).2]
  ram := nofun
  prgSize := by rw [(write8_inv h).2]
  peek b hb := peek_of_write8 h (hb addr (List.mem_singleton_self addr))

theorem leaves_afterPointers (o : Operand) (s : State) : LeavesBut [] s (s.afterPointers o) := by
  rw [State.afterPointers_eq]
  exact .of_eq rfl rfl rfl rfl

theorem leaves_afterOperand (o : Operand) (s : State) (m : Byte) (q : List PpuAnswer) :
    LeavesBut [] s (afterOperand o s m q) := by
  unfold afterOperand
  split
  · exact .of_eq rfl rfl rfl rfl
  · exact (leaves_afterPointers o s).trans (.of_eq rfl rfl rfl rfl)

/-! ### The operations -/

/-- An effect on A, X, Y, SP, P and the run status alone. -/
def OnRegisters (f : State → State) : Prop :=
  ∀ u, f u = { u with a := (f u).a, x := (f u).x, y := (f u).y, sp := (f u).sp, p := (f u).p, status := (f u).status }

theorem OnRegisters.leaves {f : State → State} (hf : OnRegisters f) (u : State) : LeavesBut [] u (f u) := by
  rw [hf u]
  exact .of_eq rfl rfl rfl rfl

theorem onRegisters_brkEffect : OnRegisters brkEffect := by
  intro u
  unfold brkEffect
  split <;> rfl

section
variable {op : Byte} {o : Operand} {s t : State} {val : Byte → State → Byte} {eff : Byte → State → State}

theorem readInstr_leaves (hmode : o.mode ≠ .noneAddressing) (heff : ∀ b, OnRegisters (eff b))
    (h : readInstr op o eff s = .next t) : LeavesBut [] { s with pc := s.pc + o.size } t := by
  obtain ⟨m, q, -, rfl⟩ := readInstr_next hmode h
  exact ((leaves_afterOperand o s m q).trans ((heff m).leaves _)).advance o.size

theorem modifyInstr_leaves (hmode : o.mode ≠ .noneAddressing) (heff : ∀ b, OnRegisters (eff b))
    (h : modifyInstr op o val eff s = .next t) :
    LeavesBut [effectiveAddr o s] { s with pc := s.pc + o.size } t := by
  obtain ⟨m, s1, s2, hr, hw, rfl⟩ := modifyInstr_next hmode h
  exact ((((leaves_afterPointers o s).trans (leaves_of_read8 hr)).trans (leavesBut_of_write8 hw)).trans
    ((heff m).leaves s2)).advance o.size

theorem storeInstr_leaves {val : State → Byte} (hmode : o.mode ≠ .noneAddressing)
    (h : storeInstr op o val s = .next t) : LeavesBut [effectiveAddr o s] { s with pc := s.pc + o.size } t := by
  obtain ⟨u, hw, rfl⟩ := storeInstr_next hmode h
  exact ((leaves_afterPointers o s).trans (leavesBut_of_write8 hw)).advance o.size

theorem storeHigh_leaves {val : State → Byte} (hmode : o.mode ≠ .noneAddressing)
    (h : storeHigh op o val s = .next t) :
    LeavesBut [highAddr o s (val (s.afterPointers o))] { s with pc := s.pc + o.size } t := by
  obtain ⟨v, u, rfl, hw, rfl⟩ := storeHigh_next hmode h
  exact ((leaves_afterPointers o s).trans (leavesBut_of_write8 hw)).advance o.size

theorem push8_leaves {v : Byte} (h : push8 v s = .ok t) : LeavesBut [stackAddr s.sp] s t ∧ t.sp = s.sp - 1 := by
  obtain ⟨u, h1, h⟩ := exists_of_bind_ok h
  have hu := leavesBut_of_write8 h1
  have hsp : u.sp = s.sp := by rw [(write8_inv h1).2]
  cases h
  exact ⟨hu.trans (.of_eq rfl rfl rfl rfl), congrArg (· - 1) hsp⟩

theorem push16_leaves {v : Addr} (h : push16 v s = .ok t) :
    LeavesBut [stackAddr s.sp, stackAddr (s.sp - 1)] s t := by
  obtain ⟨u, h1, h2⟩ := exists_of_bind_ok h
  obtain ⟨hu, hsp⟩ := push8_leaves h1
  exact hu.trans (hsp ▸ (push8_leaves h2).1)

theorem pop8_leaves {m : Byte} (h : pop8 s = .ok (m, t)) : LeavesBut [] s t := by
  have hs : LeavesBut [] s { s with sp := s.sp + 1 } := .of_eq rfl rfl rfl rfl
  exact hs.trans (leaves_of_read8 h)

theorem pop16_leaves {v : Addr} (h : pop16 s = .ok (v, t)) : LeavesBut [] s t := by
  obtain ⟨⟨lo, u⟩, h1, h⟩ := exists_of_bind_ok h
  obtain ⟨⟨hi, w⟩, h2, h⟩ := exists_of_bind_ok h
  cases h
  exact (pop8_leaves h1).trans (pop8_leaves h2)

end

/-! ### The instructions -/

/-- The addresses that the instructions of a mnemonic write to (rule R111): the effective address or the target `T` of rule
R282, or the stack. -/
def writtenAddrs (m : Mnemonic) (o : Operand) (s : State) : List Addr :=
  match m with
  | .STA | .STX | .STY | .SAX | .INC | .DEC | .SLO | .RLA | .SRE | .RRA | .DCP | .ISB => [effectiveAddr o s]
  | .ASL | .LSR | .ROL | .ROR => if o = .accumulator then [] else [effectiveAddr o s]
  | .SHA | .SHX | .SHY | .TAS => [highAddr o s (highRegister m s)]
  | .PHA | .PHP => [stackAddr s.sp]
  | .JSR => [stackAddr s.sp, stackAddr (s.sp - 1)]
  | _ => []

/-- An instruction of mnemonic `m` leaves memory but for the bytes it writes, and takes the generic advance unless it is of
`PC_SETTING` or a halt. -/
def Leaves (m : Mnemonic) (o : Operand) (s t : State) : Prop :=
  ∃ pc, LeavesBut (writtenAddrs m o s) { s with pc := pc } t ∧ (setsPc m = false → pc = s.pc + o.size)

section
variable {m : Mnemonic} {op : Byte} {o : Operand} {s t : State}

/-- The instructions of one byte that take the generic advance of zero. -/
theorem leaves_of_implied (ho : o.size = 0) (h : LeavesBut (writtenAddrs m o s) s t) : Leaves m o s t :=
  ⟨s.pc, h, fun _ => by rw [ho]; exact (BitVec.add_zero s.pc).symm⟩

theorem leaves_of_setsPc (hm : setsPc m = true) (pc : Addr)
    (h : LeavesBut (writtenAddrs m o s) { s with pc := pc } t) : Leaves m o s t :=
  ⟨pc, h, fun hf => absurd (hm.symm.trans hf) nofun⟩

theorem execAs_leaves (ho : OperandSuits m o) (h : execAs m op o s = .next t) : Leaves m o s t := by
  cases m
  case ORA | ANC | AND | BIT | EOR | ALR | ADC | ARR | LDY | LDA | LDX | LAX | LAS | CPY | CMP | AXS | CPX | SBC =>
    exact ⟨_, readInstr_leaves ho (fun _ _ => rfl) h, fun _ => rfl⟩
  case XAA | LXA => exact ⟨_, readInstr_leaves ho (fun _ _ => rfl) (ifAdmitted_next h), fun _ => rfl⟩
  case SLO | RLA | SRE | RRA | DCP | ISB | DEC | INC =>
    exact ⟨_, modifyInstr_leaves ho.1 (fun _ _ => rfl) h, fun _ => rfl⟩
  case ASL | ROL | LSR | ROR =>
    obtain rfl | ⟨hmode, -⟩ := ho
    · cases h
      exact leaves_of_implied rfl (.of_eq rfl rfl rfl rfl)
    · have hacc := accumulator_ne_of_mode hmode
      rw [execAs, if_neg hacc] at h
      refine ⟨_, ?_, fun _ => rfl⟩
      rw [writtenAddrs, if_neg hacc]
      exact modifyInstr_leaves hmode (fun _ _ => rfl) h
  case STA | SAX | STY | STX => exact ⟨_, storeInstr_leaves ho.1 h, fun _ => rfl⟩
  case SHA | SHY | SHX =>
    have hleaves := storeHigh_leaves ho.1 (ifAdmitted_next h)
    simp only [shaValue, shyValue, shxValue, State.afterPointers_a, State.afterPointers_x, State.afterPointers_y] at hleaves
    exact ⟨_, hleaves, fun _ => rfl⟩
  case TAS =>
    obtain ⟨a, rfl⟩ := ho
    have hleaves := storeHigh_leaves (o := .absoluteY a) nofun (ifAdmitted_next h)
    have hs : LeavesBut [] s (tasEffect s) := .of_eq rfl rfl rfl rfl
    exact ⟨_, (hs.withPc _).trans hleaves, fun _ => rfl⟩
  case NOP =>
    obtain rfl | hmode := ho
    · cases h
      exact leaves_of_implied rfl (.of_eq rfl rfl rfl rfl)
    · rw [execAs, if_neg fun himp : o = .implied => hmode (himp ▸ rfl)] at h
      exact ⟨_, readInstr_leaves hmode (fun _ _ => rfl) h, fun _ => rfl⟩
  case BPL | BMI | BVC | BVS | BCC | BCS | BNE | BEQ =>
    obtain ⟨r, rfl⟩ := ho
    cases h
    exact leaves_of_setsPc rfl _ (.of_eq rfl rfl rfl rfl)
  case JSR =>
    obtain ⟨a, rfl⟩ := ho
    obtain ⟨u, h1, h⟩ := exists_of_bind_ok (complete_next h)
    cases h
    exact leaves_of_setsPc rfl _ ((push16_leaves h1).withPc _)
  case JMP =>
    obtain ⟨a, rfl⟩ | ⟨a, rfl⟩ := ho
    · cases h
      exact leaves_of_setsPc rfl _ (.of_eq rfl rfl rfl rfl)
    · obtain ⟨⟨lo, s1⟩, h1, h⟩ := exists_of_bind_ok (complete_next h)
      obtain ⟨⟨hi, s2⟩, h2, h⟩ := exists_of_bind_ok h
      cases h
      exact leaves_of_setsPc rfl _ (((leaves_of_read8 h1).trans (leaves_of_read8 h2)).withPc _)
  all_goals obtain rfl : o = .implied := ho
  case PHP | PHA => exact leaves_of_implied rfl (push8_leaves (complete_next h)).1
  case PLP | PLA =>
    obtain ⟨⟨b, u⟩, h1, h⟩ := exists_of_bind_ok (complete_next h)
    cases h
    exact leaves_of_implied rfl ((pop8_leaves h1).trans (.of_eq rfl rfl rfl rfl))
  case RTI =>
    obtain ⟨⟨b, u⟩, h1, h⟩ := exists_of_bind_ok (complete_next h)
    obtain ⟨⟨v, w⟩, h2, h⟩ := exists_of_bind_ok h
    cases h
    have hu : LeavesBut [] u { u with p := pulledStatus b } := .of_eq rfl rfl rfl rfl
    exact leaves_of_setsPc rfl _ (((pop8_leaves h1).trans (hu.trans (pop16_leaves h2))).withPc _)
  case RTS =>
    obtain ⟨⟨v, u⟩, h1, h⟩ := exists_of_bind_ok (complete_next h)
    cases h
    exact leaves_of_setsPc rfl _ ((pop16_leaves h1).withPc _)
  case BRK =>
    cases h
    exact leaves_of_setsPc rfl s.pc ((onRegisters_brkEffect.leaves s).trans (.of_eq rfl rfl rfl rfl))
  all_goals
    cases h
    exact leaves_of_implied rfl (.of_eq rfl rfl rfl rfl)

end

theorem exec_leaves {i : Instr} {s t : State} (h : exec i s = .next t) : Leaves i.mnemonic i.operand s t :=
  execAs_leaves (operandSuits i) (exec_eq i s ▸ h)

/-! ### The statements about what an instruction leaves -/

theorem size_eq_ofNat_length (i : Instr) : i.operand.size = BitVec.ofNat 16 (i.length - 1) := by
  rw [Instr.length, Nat.add_sub_cancel, BitVec.ofNat_toNat, BitVec.setWidth_eq]

/-- Settles O51: the generic advance is past the operand bytes, and the halts do not move `PC`. -/
theorem genericAdvancePastOperand : Obligations.GenericAdvancePastOperand := by
  intro i s t h
  refine ⟨fun hm => ?_, fun hm => ?_⟩
  · obtain ⟨pc, hleaves, hpc⟩ := exec_leaves h
    rw [hleaves.pc, hpc hm, size_eq_ofNat_length]
  · rw [exec_eq] at h
    obtain hm | hm := hm <;> rw [hm] at h <;> cases h
    · exact (onRegisters_brkEffect.leaves s).pc
    · rfl

section
variable {m : Mnemonic} {o : Operand} {s : State}

theorem writtenAddrs_eq_nil (ho : OperandSuits m o) (hstore : isStoring m = false)
    (hmodify : isModifying m = false ∨ o = .accumulator) (hpush : m ∉ ([.PHA, .PHP, .JSR] : List Mnemonic)) :
    writtenAddrs m o s = [] := by
  cases m
  case STA | STX | STY | SAX | SHA | SHX | SHY | TAS => exact absurd hstore (by decide)
  case INC | DEC | SLO | RLA | SRE | RRA | DCP | ISB =>
    exact absurd (hmodify.resolve_left (by decide)) (accumulator_ne_of_mode ho.1)
  case ASL | LSR | ROL | ROR => exact if_pos (hmodify.resolve_left (by decide))
  case PHA | PHP | JSR => exact absurd (by decide) hpush
  all_goals rfl

theorem writtenAddrs_of_store (hstore : isStoring m = true) (hhigh : isHighStore m = false) :
    writtenAddrs m o s = [effectiveAddr o s] := by
  cases m
  case STA | STX | STY | SAX => rfl
  case SHA | SHX | SHY | TAS => exact absurd hhigh (by decide)
  all_goals exact absurd hstore (by decide)

theorem writtenAddrs_of_modify (hmodify : isModifying m = true) (hacc : o ≠ .accumulator) :
    writtenAddrs m o s = [effectiveAddr o s] := by
  cases m
  case INC | DEC | SLO | RLA | SRE | RRA | DCP | ISB => rfl
  case ASL | LSR | ROL | ROR => exact if_neg hacc
  all_goals exact absurd hmodify (by decide)

theorem writtenAddrs_of_highStore (hhigh : isHighStore m = true) :
    writtenAddrs m o s = [highAddr o s (highRegister m s)] := by
  cases m
  case SHA | SHX | SHY | TAS => rfl
  all_goals exact absurd hhigh (by decide)

end

/-- An operand that resolves gives its effective address (rule R108). -/
theorem resolve_ok {o : Operand} {ea : Addr} {s u : State} (h : resolve o s = .ok (ea, u)) : ea = effectiveAddr o s := by
  by_cases hmode : o.mode = .noneAddressing
  · cases o <;> cases hmode <;> cases h
  · rw [resolve_eq hmode] at h
    cases h
    rfl

/-- The base of an operand that resolves, which its index moves to the effective address. -/
theorem resolveBase_ok {o : Operand} {base : Addr} {s u : State} (h : resolveBase o s = .ok (base, u)) :
    base = highBase o s := by
  by_cases hmode : o.mode = .noneAddressing
  · cases o <;> cases hmode <;> cases h
  · rw [resolveBase_eq hmode] at h
    cases h
    rfl

/-- Settles O52: an instruction that is of none of the named kinds has no address to write to. -/
theorem nonStoringLeaveMemory : Obligations.NonStoringLeaveMemory := by
  intro i s t h hstore hmodify hpush
  obtain ⟨pc, hleaves, -⟩ := exec_leaves h
  rw [writtenAddrs_eq_nil (operandSuits i) hstore hmodify hpush] at hleaves
  exact ⟨hleaves.ram rfl, fun b => hleaves.peek b (List.forall_mem_nil _)⟩

/-- Settles O53: the addresses an instruction writes to are, kind by kind, the named ones. -/
theorem storingLeavesOtherBytes : Obligations.StoringLeavesOtherBytes := by
  intro i s t h
  obtain ⟨pc, hleaves, -⟩ := exec_leaves h
  have hpeek : ∀ b, (∀ a ∈ writtenAddrs i.mnemonic i.operand s, sameRamByte s.prgSize a b = false) →
      t.peek b = s.peek b := hleaves.peek
  refine ⟨fun hclass ea u hea b hb => hpeek b ?_, fun hhigh base u hbase => ?_,
    fun hpush b hb => hpeek b ?_, fun hjsr b hb hb' => hpeek b ?_⟩
  · have hwritten : writtenAddrs i.mnemonic i.operand s = [effectiveAddr i.operand s] := by
      obtain ⟨hstore, hhigh⟩ | ⟨hmodify, hacc⟩ := hclass
      · exact writtenAddrs_of_store hstore hhigh
      · exact writtenAddrs_of_modify hmodify hacc
    rw [hwritten, ← resolve_ok hea]
    exact List.forall_mem_singleton.mpr hb
  · intro v b hb
    refine hpeek b ?_
    have hindex : highBase i.operand s + indexOf i.operand s = effectiveAddr i.operand s := BitVec.sub_add_cancel _ _
    rw [writtenAddrs_of_highStore hhigh, highAddr, highValue, ← hindex, ← resolveBase_ok hbase]
    exact List.forall_mem_singleton.mpr hb
  · have hwritten : writtenAddrs i.mnemonic i.operand s = [stackAddr s.sp] := by
      simp only [List.mem_cons, List.not_mem_nil, or_false] at hpush
      obtain hm | hm := hpush <;> rw [hm] <;> rfl
    rw [hwritten]
    exact List.forall_mem_singleton.mpr hb
  · rw [hjsr, writtenAddrs]
    exact List.forall_mem_cons.mpr ⟨hb, List.forall_mem_singleton.mpr hb'⟩

end Sys2Proof.Machine
end

section
/-! SUPPORT. What an instruction does whose mnemonic reads or stores to its operand, pushes a byte or pulls one (rule R111,
R142 to R145). -/

namespace Sys2Proof.Machine

section
variable {i : Instr} {m : Mnemonic} {s : State}

theorem exec_of_mnemonic (hi : i.mnemonic = m) (s : State) : exec i s = execAs m i.opcode i.operand s :=
  hi ▸ exec_eq i s

theorem operandSuits_of_mnemonic (hi : i.mnemonic = m) : OperandSuits m i.operand := hi ▸ operandSuits i

/-! ### Operands -/

theorem raiseFatal_kind (opaddr : Addr) (op : Option Byte) (f : BusFault) :
    ∃ g, raiseFatal opaddr op f = .fault g ∧ g.kind = f.kind :=
  ⟨_, rfl, Fault.kind_ofKind _ _ _⟩

/-- The read of an operand changes the history and the oracle alone. -/
theorem afterOperand_eq {o : Operand} {b : Byte} {q : List PpuAnswer} (h : OperandReads o s b q) :
    afterOperand o s b q = { s with history := (afterOperand o s b q).history, ppuScript := q } := by
  cases o
  case immediate => obtain ⟨-, rfl⟩ := h; rfl
  all_goals rfl

/-- A mnemonic that reads its operand, its effect not depending on the history or the oracle. -/
theorem readsOperand_of_mnemonic {eff : Byte → State → State} {effect : Byte → State} (hi : i.mnemonic = m)
    (hmode : i.operand.mode ≠ .noneAddressing)
    (hexec : execAs m i.opcode i.operand s = readInstr i.opcode i.operand eff s)
    (heff : ∀ b h q n, (eff b { s with history := h, ppuScript := q }).advance n =
      { effect b with pc := s.pc + n, history := h, ppuScript := q }) :
    ReadsOperand i s effect := by
  rw [ReadsOperand, exec_of_mnemonic hi, hexec]
  refine ⟨fun b q hr => ⟨(afterOperand i.operand s b q).history, ?_⟩, fun k hk => ?_⟩
  · rw [readInstr_of_reads hmode hr, afterOperand_eq hr, heff]
  · obtain ⟨hist, he⟩ := readInstr_of_stops hmode hk
    exact he ▸ raiseFatal_kind _ _ _

/-- A mnemonic that stores to its operand, the value not depending on the history. -/
theorem storesAtOperand_of_mnemonic {val : State → Byte} {v : Byte} (hi : i.mnemonic = m)
    (hmode : i.operand.mode ≠ .noneAddressing)
    (hexec : execAs m i.opcode i.operand s = storeInstr i.opcode i.operand val s)
    (hval : ∀ h, val { s with history := h } = v) : StoresAtOperand i s v := by
  rw [StoresAtOperand, exec_of_mnemonic hi, hexec, storeInstr_eq hmode, State.afterPointers_eq s i.operand, hval]
  refine ⟨fun ram' q hw => ?_, fun k hk => ?_⟩
  · rw [write8_of_writesAt hw]
    exact ⟨_, rfl⟩
  · obtain ⟨hist, he⟩ := write8_of_writeStops (k := .dataWrite) hk
    rw [he]
    exact raiseFatal_kind _ _ _

end

/-! ### The stack -/

theorem complete_push8 (op v : Byte) (s : State) :
    ∃ h, complete op s (push8 v s) =
      .next { s with ram := Memory.set s.ram (0x100 + s.sp.toNat) v, sp := s.sp - 1, history := h } :=
  ⟨_, congrArg (complete op s) (push8_eq v s)⟩

theorem complete_pop8 (op : Byte) (eff : Byte → State → State) (s : State) :
    ∃ h, complete op s (pop8 s >>= fun r => .ok (eff r.1 r.2)) =
      .next (eff (Memory.get s.ram (0x100 + (s.sp + 1).toNat)) { s with sp := s.sp + 1, history := h }) := by
  rw [pop8_eq]
  exact ⟨_, rfl⟩

theorem exec_php (s : State) :
    ∃ h, exec .php s = .next { s with
      ram := Memory.set s.ram (0x100 + s.sp.toNat) (pushedStatus s.p), sp := s.sp - 1, history := h } :=
  complete_push8 0x08 (pushedStatus s.p) s

theorem exec_plp (s : State) :
    ∃ h, exec .plp s = .next { s with
      p := pulledStatus (Memory.get s.ram (0x100 + (s.sp + 1).toNat)), sp := s.sp + 1, history := h } :=
  complete_pop8 0x28 plpEffect s

/-- A status byte with B clear and B2 set is pulled as it was before it was pushed (rules R32, R33). -/
theorem pulledStatus_pushedStatus {p : Byte} (hB : p.getLsbD Flag.B.bit = false) (hB2 : p.getLsbD Flag.B2.bit = true) :
    pulledStatus (pushedStatus p) = p := by
  refine eq_of_flags fun g => ?_
  rw [getLsbD_pulledStatus, getLsbD_pushedStatus]
  cases g
  case B => exact hB.symm
  case B2 => exact hB2.symm
  all_goals rfl

end Sys2Proof.Machine
end

section
/-! SUPPORT. The statements of 40_load_store_transfer.md settled. -/

namespace Sys2Proof.Machine

/-- Settles O23: the loads are reading instructions in every form. -/
theorem loadsWriteRegisterAndZN : Obligations.LoadsWriteRegisterAndZN := by
  refine ⟨⟨encodedAs_of_test (by decide), encodedAs_of_test (by decide), encodedAs_of_test (by decide)⟩,
    fun i s => ⟨fun hi => ?_, fun hi => ?_, fun hi => ?_⟩⟩
  all_goals exact readsOperand_of_mnemonic hi (operandSuits_of_mnemonic hi) rfl fun _ _ _ _ => rfl

/-- Settles O30: the stores are storing instructions in every form. -/
theorem storesWriteTheirRegister : Obligations.StoresWriteTheirRegister := by
  refine ⟨⟨encodedAs_of_test (by decide), encodedAs_of_test (by decide), encodedAs_of_test (by decide),
    encodedAs_of_test (by decide)⟩, fun i s => ⟨fun hi => ?_, fun hi => ?_, fun hi => ?_, fun hi => ?_⟩⟩
  all_goals exact storesAtOperand_of_mnemonic hi (operandSuits_of_mnemonic hi).1 rfl fun _ => rfl

/-- Settles O35: each transfer is its effect alone. -/
theorem transfersCopyRegisters : Obligations.TransfersCopyRegisters :=
  ⟨⟨rfl, rfl, rfl, rfl, rfl, rfl⟩, fun _ => ⟨rfl, rfl, rfl, rfl, rfl, rfl⟩⟩

/-- Settles O38: the stack page is RAM, so neither instruction can fail. -/
theorem phaPushesAndPlaPullsAccumulator : Obligations.PhaPushesAndPlaPullsAccumulator :=
  ⟨⟨rfl, rfl⟩, fun s => ⟨complete_push8 0x48 s.a s, complete_pop8 0x68 plaEffect s⟩⟩

/-- Settles O39: PLP pulls the byte PHP pushed, from the same place. -/
theorem phpPushesStatusAndPlpLoadsIt : Obligations.PhpPushesStatusAndPlpLoadsIt := by
  refine ⟨⟨rfl, rfl⟩, fun s => ⟨exec_php s, exec_plp s, fun hwf hB hB2 t u ht hu => ?_⟩⟩
  obtain ⟨_, hphp⟩ := exec_php s
  obtain ⟨_, hplp⟩ := exec_plp t
  cases hphp.symm.trans ht
  cases hplp.symm.trans hu
  have hsp : s.sp - 1 + 1 = s.sp := BitVec.sub_add_cancel _ _
  refine ⟨?_, hsp⟩
  rw [hsp, Memory.get_set_same hwf, pulledStatus_pushedStatus hB hB2]

end Sys2Proof.Machine
end

section
/-! SUPPORT. The adder as integers (rule R171), the shifts through the carry (rule R188), and what an instruction does whose
mnemonic modifies its operand or shifts (rule R111). -/

namespace Sys2Proof.Machine

/-! ### The adder -/

section
variable (a m : Byte) (c : Bool)

/-- The intermediate sum of 16 bits does not wrap. -/
theorem wideSum_toNat :
    (a.setWidth 16 + m.setWidth 16 + (if c then 1 else 0) : BitVec 16).toNat = a.toNat + m.toNat + c.toNat := by
  cases c <;> simp only [Bool.toNat_true, Bool.toNat_false, if_true, if_false, Bool.false_eq_true] <;> bv_omega

theorem adcCore_value_toNat : (adcCore a m c).value.toNat = (a.toNat + m.toNat + c.toNat) % 256 := by
  rw [← wideSum_toNat]
  exact BitVec.toNat_setWidth ..

theorem adcCore_carry_iff : (adcCore a m c).carry = true ↔ 0xFF < a.toNat + m.toNat + c.toNat := by
  rw [← wideSum_toNat]
  exact decide_eq_true_iff

theorem and_signBit_ne_zero (v : Byte) : (v &&& 0x80 != 0) = v.msb := by
  rw [show (0x80 : Byte) = BitVec.twoPow 8 7 from rfl, BitVec.and_twoPow, BitVec.msb_eq_getLsbD_last]
  cases v.getLsbD 7 <;> rfl

/-- Overflow is a result of a sign that neither operand has. -/
theorem adcCore_overflow_eq_msb : (adcCore a m c).overflow =
    ((m.msb ^^ (adcCore a m c).value.msb) && (a.msb ^^ (adcCore a m c).value.msb)) := by
  rw [← BitVec.msb_xor, ← BitVec.msb_xor, ← BitVec.msb_and, ← and_signBit_ne_zero]
  rfl

theorem adcCore_overflow_iff : (adcCore a m c).overflow = true ↔
    a.toInt + m.toInt + c.toNat < -128 ∨ 127 < a.toInt + m.toInt + c.toNat := by
  have hvalue : (adcCore a m c).value.toNat = (a.toNat + m.toNat + c.toNat) % 256 := adcCore_value_toNat a m c
  have hc : c.toNat ≤ 1 := Bool.toNat_le c
  rw [adcCore_overflow_eq_msb]
  simp only [BitVec.msb_eq_decide, BitVec.toInt_eq_toNat_cond, Bool.and_eq_true, bne_iff_ne, ne_eq, decide_eq_decide,
    Nat.reduceSub, Nat.reducePow]
  omega

end

/-! ### The shifts -/

/-- The carry enters a rotate to the left at bit 0. -/
theorem rol_eq (v : Byte) (c : Bool) :
    rol v c = { value := (v <<< 1) ||| BitVec.ofNat 8 (if c then 1 else 0), carry := v.getLsbD 7 } := by
  cases c <;> rfl

/-- The carry enters a rotate to the right at bit 7. -/
theorem ror_eq (v : Byte) (c : Bool) :
    ror v c = { value := (v >>> 1) ||| BitVec.ofNat 8 (128 * if c then 1 else 0), carry := v.getLsbD 0 } := by
  cases c <;> rfl

/-! ### Instructions that modify their operand -/

/-- The data read of an operand changes the history and the oracle alone. -/
theorem afterRead_afterPointers_eq (s : State) (o : Operand) (addr : Addr) (b : Byte) (q : List PpuAnswer) :
    ∃ h, (s.afterPointers o).afterRead addr b q = { s with history := h, ppuScript := q } := by
  rw [State.afterPointers_eq]
  exact ⟨_, rfl⟩

section
variable {op : Byte} {o : Operand} {val : Byte → State → Byte} {eff : Byte → State → State} {s : State} {b : Byte}
  {q : List PpuAnswer} {k : FatalKind} (hmode : o.mode ≠ .noneAddressing)
include hmode

theorem modifyInstr_of_readStops (hr : ReadStops (s.afterPointers o) (effectiveAddr o s) k) :
    ∃ f, modifyInstr op o val eff s = .fault f ∧ f.kind = k := by
  obtain ⟨hist, he⟩ := read8_of_readStops (k := .dataRead) hr
  rw [modifyInstr_eq hmode, he]
  exact raiseFatal_kind _ _ _

/-- After a read that answers, what is left of the instruction is its write. -/
theorem modifyInstr_of_reads (hr : ReadsAt (s.afterPointers o) (effectiveAddr o s) b q) :
    let s1 := (s.afterPointers o).afterRead (effectiveAddr o s) b q
    modifyInstr op o val eff s = complete op s (do
      let s2 ← write8 .dataWrite (effectiveAddr o s) (val b s1) s1
      .ok ((eff b s2).advance o.size)) := by
  rw [modifyInstr_eq hmode, read8_of_readsAt hr]
  rfl

theorem modifyInstr_of_writeStops (hr : ReadsAt (s.afterPointers o) (effectiveAddr o s) b q)
    (hw : let s1 := (s.afterPointers o).afterRead (effectiveAddr o s) b q
      WriteStops s1 (effectiveAddr o s) (val b s1) k) :
    ∃ f, modifyInstr op o val eff s = .fault f ∧ f.kind = k := by
  obtain ⟨hist, he⟩ := write8_of_writeStops (k := .dataWrite) hw
  rw [modifyInstr_of_reads hmode hr, he]
  exact raiseFatal_kind _ _ _

theorem modifyInstr_of_writes {ram' : Memory} {q' : List PpuAnswer}
    (hr : ReadsAt (s.afterPointers o) (effectiveAddr o s) b q)
    (hw : let s1 := (s.afterPointers o).afterRead (effectiveAddr o s) b q
      WritesAt s1 (effectiveAddr o s) (val b s1) ram' q') :
    ∃ h, modifyInstr op o val eff s =
      .next ((eff b { s with ram := ram', history := h, ppuScript := q' }).advance o.size) := by
  obtain ⟨h, hs1⟩ := afterRead_afterPointers_eq s o (effectiveAddr o s) b q
  rw [modifyInstr_of_reads hmode hr, write8_of_writesAt hw, hs1]
  exact ⟨_, rfl⟩

end

section
variable {i : Instr} {m : Mnemonic} {s : State}

/-- A mnemonic that modifies its operand, the value and the effect not depending on RAM, the history or the oracle. -/
theorem modifiesOperand_of_mnemonic {val : Byte → State → Byte} {eff : Byte → State → State} {value : Byte → Byte}
    {effect : Byte → State} (hi : i.mnemonic = m) (hmode : i.operand.mode ≠ .noneAddressing)
    (hexec : execAs m i.opcode i.operand s = modifyInstr i.opcode i.operand val eff s)
    (hval : ∀ b h q, val b { s with history := h, ppuScript := q } = value b)
    (heff : ∀ b ram h q n, (eff b { s with ram := ram, history := h, ppuScript := q }).advance n =
      { effect b with ram := ram, pc := s.pc + n, history := h, ppuScript := q }) :
    ModifiesOperand i s value effect := by
  have hvalue : ∀ b q, val b ((s.afterPointers i.operand).afterRead (effectiveAddr i.operand s) b q) = value b := by
    intro b q
    obtain ⟨h, hs1⟩ := afterRead_afterPointers_eq s i.operand (effectiveAddr i.operand s) b q
    rw [hs1, hval]
  rw [ModifiesOperand, exec_of_mnemonic hi, hexec]
  refine ⟨fun b q hr => ⟨fun ram' q' hw => ?_, fun k hk => ?_⟩, fun k hk => modifyInstr_of_readStops hmode hk⟩
  · rw [← hvalue b q] at hw
    obtain ⟨h, hnext⟩ := modifyInstr_of_writes (eff := eff) hmode hr hw
    exact ⟨h, by rw [hnext, heff]⟩
  · rw [← hvalue b q] at hk
    exact modifyInstr_of_writeStops hmode hr hk

/-- What a shift by `shift`, a function of the byte and the carry before, does with its operand, the accumulator or memory
(rules R189 to R192). -/
def execShift (shift : Byte → Bool → Shifted) (op : Byte) (o : Operand) (s : State) : Result :=
  if o = .accumulator then
    impliedInstr (fun u => State.setShiftFlags { u with a := (shift u.a (u.flag .C)).value } (shift u.a (u.flag .C))) s
  else
    modifyInstr op o (fun b u => (shift b (u.flag .C)).value) (fun b u => u.setShiftFlags (shift b (u.flag .C))) s

/-- A mnemonic that shifts the accumulator or its operand, the shifted byte and the bit shifted out being `value` and
`carry`. -/
theorem shift_of_mnemonic {shift : Byte → Bool → Shifted} {value : Byte → Byte} {carry : Byte → Bool}
    (hi : i.mnemonic = m) (ho : i.operand = .accumulator ∨ OperandInMemory i.operand)
    (hexec : execAs m i.opcode i.operand s = execShift shift i.opcode i.operand s)
    (hshift : ∀ v, shift v (s.flag .C) = ⟨value v, carry v⟩) :
    (i.operand = .accumulator →
      exec i s = .next { s with a := value s.a, p := withZN (value s.a) (withFlag .C (carry s.a) s.p) }) ∧
    (i.operand ≠ .accumulator →
      ModifiesOperand i s value (fun b => { s with p := withZN (value b) (withFlag .C (carry b) s.p) })) := by
  refine ⟨fun hacc => ?_, fun hacc => ?_⟩
  · rw [exec_of_mnemonic hi, hexec, execShift, if_pos hacc, impliedInstr, hshift]
    rfl
  · have hflag : ∀ ram h q, State.flag { s with ram := ram, history := h, ppuScript := q } .C = s.flag .C :=
      fun _ _ _ => rfl
    refine modifiesOperand_of_mnemonic hi (ho.resolve_left hacc).1 (hexec.trans (if_neg hacc))
      (fun b h q => congrArg Shifted.value (hshift b)) fun b ram h q n => ?_
    rw [hflag, hshift]
    rfl

end

end Sys2Proof.Machine
end

section
/-! SUPPORT. The statements of 41_alu.md settled. -/

namespace Sys2Proof.Machine

/-- Settles O21: the intermediate sum of 16 bits is the integer sum, and overflow a comparison of signs. -/
theorem adderIntegerLaw : Obligations.AdderIntegerLaw := fun a m c =>
  ⟨adcCore_value_toNat a m c, adcCore_carry_iff a m c, rfl, adcCore_overflow_iff a m c⟩

/-- Settles O22: the inverted operand is 255 - M as an integer. -/
theorem subtractIntegerLaw : Obligations.SubtractIntegerLaw := by
  intro a m c r
  have hnot : (~~~m).toNat = 255 - m.toNat := BitVec.toNat_not
  have hvalue : r.value.toNat = (a.toNat + (~~~m).toNat + c.toNat) % 256 := adcCore_value_toNat a (~~~m) c
  have hcarry : r.carry = true ↔ 0xFF < a.toNat + (~~~m).toNat + c.toNat := adcCore_carry_iff a (~~~m) c
  rw [hnot] at hvalue hcarry
  cases c <;> simp only [Bool.toNat_true, Bool.toNat_false, if_true, if_false, Bool.false_eq_true] at hvalue hcarry ⊢
  all_goals exact ⟨by bv_omega, by rw [hcarry]; omega⟩

/-- Settles O24: SBC is the adder on the inverted operand. -/
theorem addAndSubtractThroughTheAdder : Obligations.AddAndSubtractThroughTheAdder := by
  refine ⟨⟨encodedAs_of_test (by decide), encodedAs_of_test (by decide)⟩, fun i s => ⟨fun hi => ?_, fun hi => ?_⟩⟩
  all_goals exact readsOperand_of_mnemonic hi (operandSuits_of_mnemonic hi) rfl fun _ _ _ _ => rfl

/-- Settles O25: the logic instructions are reading instructions in every form. -/
theorem logicWritesAccumulatorAndZN : Obligations.LogicWritesAccumulatorAndZN := by
  refine ⟨⟨encodedAs_of_test (by decide), encodedAs_of_test (by decide), encodedAs_of_test (by decide)⟩,
    fun i s => ⟨fun hi => ?_, fun hi => ?_, fun hi => ?_⟩⟩
  all_goals exact readsOperand_of_mnemonic hi (operandSuits_of_mnemonic hi) rfl fun _ _ _ _ => rfl

/-- Settles O26: the compares and BIT are reading instructions whose effect is on the status byte alone. -/
theorem comparesAndBitWriteFlagsOnly : Obligations.ComparesAndBitWriteFlagsOnly := by
  refine ⟨⟨encodedAs_of_test (by decide), encodedAs_of_test (by decide), encodedAs_of_test (by decide),
    encodedAs_of_test (by decide)⟩, fun i s => ⟨fun hi => ?_, fun hi => ?_, fun hi => ?_, fun hi => ?_⟩⟩
  all_goals exact readsOperand_of_mnemonic hi (operandSuits_of_mnemonic hi) rfl fun _ _ _ _ => rfl

/-- Settles O31: INC and DEC are modifying instructions in every form. -/
theorem incrementAndDecrementMemory : Obligations.IncrementAndDecrementMemory := by
  refine ⟨⟨encodedAs_of_test (by decide), encodedAs_of_test (by decide)⟩, fun i s => ⟨fun hi => ?_, fun hi => ?_⟩⟩
  all_goals
    exact modifiesOperand_of_mnemonic hi (operandSuits_of_mnemonic hi).1 rfl (fun _ _ _ => rfl) fun _ _ _ _ _ => rfl

/-- Settles O32: each shift is one function of the byte and the carry before, in the accumulator and in memory. -/
theorem shiftsOfAccumulatorAndMemory : Obligations.ShiftsOfAccumulatorAndMemory := by
  unfold Obligations.ShiftsOfAccumulatorAndMemory
  intro c shifted out
  refine ⟨⟨encodedAs_of_test (by decide), encodedAs_of_test (by decide), encodedAs_of_test (by decide),
    encodedAs_of_test (by decide)⟩, fun i s hi => ?_⟩
  simp only [List.mem_cons, List.not_mem_nil, or_false] at hi
  obtain hi | hi | hi | hi := hi <;> rw [hi]
  · exact shift_of_mnemonic (shift := fun v _ => asl v) hi (operandSuits_of_mnemonic hi) rfl fun _ => rfl
  · exact shift_of_mnemonic (shift := fun v _ => lsr v) hi (operandSuits_of_mnemonic hi) rfl fun _ => rfl
  · exact shift_of_mnemonic (shift := rol) hi (operandSuits_of_mnemonic hi) rfl fun v => rol_eq v _
  · exact shift_of_mnemonic (shift := ror) hi (operandSuits_of_mnemonic hi) rfl fun v => ror_eq v _

/-- Settles O36: each is its effect alone. -/
theorem indexRegistersCountUpAndDown : Obligations.IndexRegistersCountUpAndDown :=
  ⟨⟨rfl, rfl, rfl, rfl⟩, fun _ => ⟨rfl, rfl, rfl, rfl⟩⟩

end Sys2Proof.Machine
end

section
/-! SUPPORT. What the jumps, calls and returns do, by the words they push, pop and read, and what a NOP is that has no
operand (rules R229 to R233, R261). -/

namespace Sys2Proof.Machine

/-! ### Calls and returns -/

section
variable {s t u : State} {v : Addr}

theorem exec_jsr_of_push16 (h : push16 (s.pc + 1) s = .ok t) (a : Addr) : exec (.jsr a) s = .next { t with pc := a } := by
  change execJsr a s = _
  rw [execJsr, h]
  rfl

theorem exec_rts_of_pop16 (h : pop16 s = .ok (v, t)) : exec .rts s = .next { t with pc := v + 1 } := by
  change execRts s = _
  rw [execRts, h]
  rfl

theorem exec_rti_of_pop8_of_pop16 {b : Byte} (hb : pop8 s = .ok (b, t))
    (hv : pop16 { t with p := pulledStatus b } = .ok (v, u)) : exec .rti s = .next { u with pc := v } := by
  change execRti s = _
  simp only [execRti, hb, hv, bind, Except.bind, complete]

end

theorem exec_jsr (a : Addr) (s : State) :
    ∃ h, exec (.jsr a) s = .next { s with
      ram := Memory.set (Memory.set s.ram (0x100 + s.sp.toNat) (hi8 (s.pc + 1))) (0x100 + (s.sp - 1).toNat) (lo8 (s.pc + 1))
      sp := s.sp - 2, pc := a, history := h } :=
  ⟨_, exec_jsr_of_push16 (push16_eq (s.pc + 1) s) a⟩

theorem exec_rts (s : State) :
    ∃ h, exec .rts s = .next { s with
      sp := s.sp + 2
      pc := word16 (Memory.get s.ram (0x100 + (s.sp + 2).toNat)) (Memory.get s.ram (0x100 + (s.sp + 1).toNat)) + 1
      history := h } :=
  ⟨_, exec_rts_of_pop16 (pop16_eq s)⟩

theorem exec_rti (s : State) :
    ∃ h, exec .rti s = .next { s with
      sp := s.sp + 3
      p := pulledStatus (Memory.get s.ram (0x100 + (s.sp + 1).toNat))
      pc := word16 (Memory.get s.ram (0x100 + (s.sp + 3).toNat)) (Memory.get s.ram (0x100 + (s.sp + 2).toNat))
      history := h } := by
  have h2 : s.sp + 1 + 1 = s.sp + 2 := BitVec.add_assoc ..
  have h3 : s.sp + 1 + 2 = s.sp + 3 := BitVec.add_assoc ..
  rw [← h2, ← h3]
  exact ⟨_, exec_rti_of_pop8_of_pop16 (pop8_eq s) (pop16_eq _)⟩

/-- The word popped is the two bytes above `SP`, low byte first (rule R31). -/
theorem pop16_ok {v : Addr} {s t : State} (h : pop16 s = .ok (v, t)) :
    word16 (Memory.get s.ram (0x100 + (s.sp + 2).toNat)) (Memory.get s.ram (0x100 + (s.sp + 1).toNat)) = v ∧
      s.sp + 2 = t.sp := by
  rw [pop16_eq] at h
  cases h
  exact ⟨rfl, rfl⟩

/-! ### Jumps -/

/-- The operand bytes of an absolute target, low byte first (rules R90, R229). -/
theorem target_bytes (hi lo : Byte) : (Operand.target (word16 hi lo)).bytes = [lo, hi] := by
  rw [Operand.bytes, lo8_word16, hi8_word16]

theorem indirectHigh_eq (a : Addr) :
    indirectHigh a = if a.toNat % 256 = 0xFF then a &&& 0xFF00 else a + 1 := by
  have hlo : lo8 a = 0xFF ↔ a.toNat % 256 = 0xFF := by rw [BitVec.toNat_eq]; rfl
  simp only [indirectHigh, hlo]

/-- Once the low byte of the target has answered, what is left of the jump is the read of its high byte. -/
theorem exec_jmpInd_of_readsAt {a : Addr} {s : State} {lo : Byte} {q : List PpuAnswer} (h : ReadsAt s a lo q) :
    exec (.jmpInd a) s = complete 0x6C s (read8 .pointer (indirectHigh a) (s.afterReadAs .pointer a lo q) >>= fun (hi, t) =>
      .ok { t with pc := word16 hi lo }) := by
  change execJmpInd a s = _
  rw [execJmpInd, read8_of_readsAt h]
  rfl

theorem exec_jmpInd_of_readsAt_readsAt {a : Addr} {s : State} {lo hi : Byte} {q q' : List PpuAnswer}
    (hlo : ReadsAt s a lo q) (hhi : ReadsAt (s.afterReadAs .pointer a lo q) (indirectHigh a) hi q') :
    ∃ h, exec (.jmpInd a) s = .next { s with pc := word16 hi lo, history := h, ppuScript := q' } := by
  rw [exec_jmpInd_of_readsAt hlo, read8_of_readsAt hhi]
  exact ⟨_, rfl⟩

/-- An instruction whose next access is a fatal read ends in a fault of the read's kind (rules R311, R312). -/
theorem complete_read8_of_readStops {op : Byte} {s u : State} {k : AccessKind} {addr : Addr} {kd : FatalKind}
    (h : ReadStops u addr kd) (rest : Byte × State → Except BusFault State) :
    ∃ f, complete op s (read8 k addr u >>= rest) = .fault f ∧ f.kind = kd := by
  obtain ⟨hist, he⟩ := read8_of_readStops (k := k) h
  rw [he]
  exact raiseFatal_kind _ _ _

/-! ### Instructions that access nothing -/

theorem brkEffect_eq (s : State) :
    brkEffect s = { s with p := if s.config.brkSetsB then withFlag .B true s.p else s.p } := by
  unfold brkEffect
  split <;> rfl

/-- The NOPs without an operand are those of rules R242 and R261. -/
theorem nop_implied_iff (i : Instr) : i.mnemonic = .NOP ∧ i.operand = .implied ↔
    i.opcode ∈ ([0xEA, 0x1A, 0x3A, 0x5A, 0x7A, 0xDA, 0xFA] : List Byte) := by
  have htable : ∀ op : Byte, signature op = some (.NOP, .noneAddressing) ↔
      op ∈ ([0xEA, 0x1A, 0x3A, 0x5A, 0x7A, 0xDA, 0xFA] : List Byte) := by decide
  rw [← htable, signature_opcode, Option.some.injEq, Prod.mk.injEq]
  refine and_congr_right fun hi => ⟨fun ho => ho ▸ rfl, fun hmode => ?_⟩
  exact (operandSuits_of_mnemonic hi : OperandSuits .NOP _).resolve_right (absurd hmode)

theorem exec_of_nop_implied {i : Instr} (hi : i.mnemonic = .NOP) (ho : i.operand = .implied) (s : State) :
    exec i s = .next s := by
  rw [exec_of_mnemonic hi, execAs, if_pos ho]
  rfl

end Sys2Proof.Machine
end

section
/-! SUPPORT. The statements of 42_control_flags.md settled. -/

namespace Sys2Proof.Machine

/-- Settles O44: JSR leaves the stack as the push of `opaddr + 2` does, and RTS pops that word and adds 1. -/
theorem rtsReturnsPastJsr : Obligations.RtsReturnsPastJsr := by
  intro a s t u hwf ht hsp hram
  obtain ⟨w, v, hpush, hpop, hvsp, -⟩ := stackRoundTrip (s.pc + 1) s hwf
  cases (exec_jsr_of_push16 hpush a).symm.trans ht
  obtain ⟨hword, hsp'⟩ := pop16_ok hpop
  obtain ⟨_, hrts⟩ := exec_rts u
  refine ⟨_, hrts, ?_, ?_⟩
  · dsimp only at hsp hram ⊢
    rw [hsp, hram, hword]
    exact BitVec.add_assoc ..
  · exact (congrArg (· + 2) hsp).trans (hsp'.trans hvsp)

/-- Settles O37: each flag instruction is its effect alone, and the NOPs without an operand are rows of the opcode map. -/
theorem flagInstructionsAndNops : Obligations.FlagInstructionsAndNops :=
  ⟨⟨rfl, rfl, rfl, rfl, rfl, rfl, rfl, nop_implied_iff⟩,
    fun s => ⟨rfl, rfl, rfl, rfl, rfl, rfl, rfl, fun _ hi ho => exec_of_nop_implied hi ho s⟩⟩

/-- Settles O40: each branch is the branch primitive on its flag. -/
theorem branchesTestOneFlag : Obligations.BranchesTestOneFlag := by
  refine ⟨⟨fun _ => rfl, fun _ => rfl, fun _ => rfl, fun _ => rfl, fun _ => rfl, fun _ => rfl, fun _ => rfl,
    fun _ => rfl⟩, fun r s => ?_⟩
  simp only [beq_true, beq_false]
  exact ⟨rfl, rfl, rfl, rfl, rfl, rfl, rfl, rfl⟩

/-- Settles O41: the indirect jump is two pointer reads, the second at the address that wraps in the page. -/
theorem jumpsAndThePageWrapQuirk : Obligations.JumpsAndThePageWrapQuirk := by
  refine ⟨fun ll hh => ⟨congrArg (0x4C :: ·) (target_bytes hh ll), congrArg (0x6C :: ·) (target_bytes hh ll)⟩,
    fun a s => ?_⟩
  rw [← indirectHigh_eq]
  refine ⟨rfl, fun lo q hi q' hlo hhi => exec_jmpInd_of_readsAt_readsAt hlo hhi,
    fun k hk => complete_read8_of_readStops hk _, fun lo q k hlo hk => ?_⟩
  rw [exec_jmpInd_of_readsAt hlo]
  exact complete_read8_of_readStops hk _

/-- Settles O42: the stack page is RAM, so neither push can fail. -/
theorem jsrPushesReturnAddress : Obligations.JsrPushesReturnAddress :=
  ⟨fun ll hh => congrArg (0x20 :: ·) (target_bytes hh ll), exec_jsr⟩

/-- Settles O43: the stack page is RAM, so no pop can fail. -/
theorem returnsPopTheirFrame : Obligations.ReturnsPopTheirFrame :=
  ⟨⟨rfl, rfl⟩, fun s => ⟨exec_rts s, exec_rti s⟩⟩

/-- Settles O45: BRK is the halt after its effect on the status byte. -/
theorem brkHaltsTheRun : Obligations.BrkHaltsTheRun :=
  ⟨rfl, fun s => congrArg (halt .brk) (brkEffect_eq s)⟩

end Sys2Proof.Machine
end

section
/-! SUPPORT. Which instructions are unstable and what refusing them leaves to the others (rule R279), the carry between the two
operations of RRA (rule R272), and what a high store does (rules R282 to R285). -/

namespace Sys2Proof.Machine

/-! ### Refusals -/

/-- A result that is no refusal: a next state or a fatal error. -/
def Answers (r : Result) : Prop := ∀ e, r ≠ .refused e

theorem answers_next (t : State) : Answers (.next t) := fun _ h => nomatch h

theorem answers_complete (op : Byte) (s : State) (x : Except BusFault State) : Answers (complete op s x) := by
  cases x <;> exact fun _ h => nomatch h

theorem ifAdmitted_of_admitted {s : State} (h : s.config.admitUnstable = true) (op : Byte) (r : Result) :
    ifAdmitted op r s = r := if_pos h

theorem ifAdmitted_of_not_admitted {s : State} (h : s.config.admitUnstable = false) (op : Byte) (r : Result) :
    ifAdmitted op r s = .refused (.unstableOpcode op) := by
  rw [ifAdmitted, h]
  rfl

/-- The mnemonics of the unstable opcode bytes (rule R279). -/
def isUnstableMnemonic (m : Mnemonic) : Bool := m ∈ [.XAA, .LXA, .SHA, .TAS, .SHY, .SHX]

theorem isUnstable_opcode (i : Instr) : isUnstable i.opcode = isUnstableMnemonic i.mnemonic := by
  have htable : ∀ op : Byte, ∀ row ∈ signature op, isUnstable op = isUnstableMnemonic row.1 := by decide
  exact htable _ _ (signature_opcode i)

/-- An unstable mnemonic is its operation if admitted, which refuses nothing by itself (rule R279). -/
theorem execAs_of_unstable {m : Mnemonic} (h : isUnstableMnemonic m = true) (op : Byte) (o : Operand) (s : State) :
    ∃ r, Answers r ∧ execAs m op o s = ifAdmitted op r s := by
  cases m
  case XAA | LXA | SHA | TAS | SHY | SHX => exact ⟨_, answers_complete _ _ _, rfl⟩
  all_goals cases h

/-- A mnemonic that is not unstable ends by a next state, or as its accesses end. -/
theorem execAs_answers {m : Mnemonic} (h : isUnstableMnemonic m = false) (op : Byte) (o : Operand) (s : State) :
    Answers (execAs m op o s) := by
  cases m
  case XAA | LXA | SHA | TAS | SHY | SHX => cases h
  case ORA | ANC | AND | BIT | EOR | ALR | ADC | ARR | LDY | LDA | LDX | LAX | LAS | CPY | CMP | AXS | CPX | SBC | STA | SAX
    | STY | STX | SLO | RLA | SRE | RRA | DCP | ISB | DEC | INC | PHP | PHA | PLP | PLA | RTI | RTS =>
    exact answers_complete _ _ _
  case ASL | ROL | LSR | ROR | NOP =>
    rw [execAs]
    split
    · exact answers_next _
    · exact answers_complete _ _ _
  case BPL | BMI | BVC | BVS | BCC | BCS | BNE | BEQ => cases o <;> exact answers_next _
  case JSR =>
    cases o
    case target => exact answers_complete _ _ _
    all_goals exact answers_next _
  case JMP =>
    cases o
    case indirectTarget => exact answers_complete _ _ _
    all_goals exact answers_next _
  all_goals exact answers_next _

/-- An unstable opcode byte is refused before its operand bytes are read (rule R325). -/
theorem fetch_of_unstable {s : State} {op : Byte} {q : List PpuAnswer} (hr : ReadsAt s s.pc op q)
    (hop : isUnstable op = true) (hadm : s.config.admitUnstable = false) :
    fetch s = .stop (.refused (.unstableOpcode op)) := by
  obtain ⟨f, hf⟩ := exists_form op
  simp only [fetch, read8_of_readsAt hr, hf, hop, hadm, Bool.not_false, Bool.and_self, if_true]

theorem step_of_stop {s : State} {r : Result} (hrun : s.status = .running) (h : fetch s = .stop r) : step s = r := by
  simp only [step, hrun, h]

/-! ### The carry between two operations -/

/-- After a write of C the adder takes that carry, and its own carry takes its place (rules R171, R272). -/
theorem addToA_setFlag_carry (m : Byte) (c : Bool) (s : State) :
    addToA m (s.setFlag .C c) =
      let r := adcCore s.a m c
      { s with a := r.value, p := withZN r.value (withFlag .V r.overflow (withFlag .C r.carry s.p)) } := by
  have hcarry : (s.setFlag .C c).flag .C = c := State.flag_setFlag s .C .C c
  have hp : ∀ w, withFlag .C w (withFlag .C c s.p) = withFlag .C w s.p :=
    fun w => congrArg State.p (setFlag_setFlag_same (f := .C) (v := c) s w)
  simp only [addToA, hcarry]
  simp only [State.setZN, State.setFlag, hp]

/-! ### The high stores -/

theorem highStore_cases {i : Instr} (h : isHighStore i.mnemonic = true) :
    (∃ z, i = .shaIndY z) ∨ (∃ a, i = .shaAbsY a) ∨ (∃ a, i = .tasAbsY a) ∨ (∃ a, i = .shyAbsX a) ∨
      ∃ a, i = .shxAbsY a := by
  cases i
  case shaIndY z => exact .inl ⟨z, rfl⟩
  case shaAbsY a => exact .inr (.inl ⟨a, rfl⟩)
  case tasAbsY a => exact .inr (.inr (.inl ⟨a, rfl⟩))
  case shyAbsX a => exact .inr (.inr (.inr (.inl ⟨a, rfl⟩)))
  case shxAbsY a => exact .inr (.inr (.inr (.inr ⟨a, rfl⟩)))
  all_goals cases h

/-- An instruction that is, from `s`, a high store of a register that holds `reg`, the base being `base`: the masked byte goes
to the target `T`, and a fatal write has the record of rule R311. -/
theorem exec_of_storeHigh {i : Instr} {r s : State} {val : State → Byte} {reg : Byte} {base : Addr}
    (hexec : exec i r = storeHigh i.opcode i.operand val s) (hmode : i.operand.mode ≠ .noneAddressing)
    (hbase : highBase i.operand s = base) (hval : val (s.afterPointers i.operand) = reg) :
    let v := reg &&& (hi8 base + 1)
    let target := highTarget base (base + indexOf i.operand s) v
    (∀ ram' q, WritesAt (s.afterPointers i.operand) target v ram' q →
      ∃ h, exec i r = .next { s with ram := ram', pc := s.pc + i.operand.size, history := h, ppuScript := q }) ∧
    (∀ k, WriteStops (s.afterPointers i.operand) target v k →
      ∃ h, exec i r = .fault (dataFault i s k target .dataWrite h)) := by
  intro v target
  have hea : effectiveAddr i.operand s = base + indexOf i.operand s := by rw [← hbase, highBase, BitVec.sub_add_cancel]
  have hwrite : exec i r = complete i.opcode s (do
      let t ← write8 .dataWrite target v (s.afterPointers i.operand)
      .ok (t.advance i.operand.size)) := by
    rw [hexec, storeHigh_eq hmode, hval, hbase, hea]
  rw [hwrite]
  refine ⟨fun ram' q hw => ?_, fun k hk => ?_⟩
  · rw [write8_of_writesAt hw, State.afterPointers_eq s i.operand]
    exact ⟨_, rfl⟩
  · obtain ⟨hist, he⟩ := write8_of_writeStops (k := .dataWrite) hk
    rw [he]
    exact ⟨hist, rfl⟩

end Sys2Proof.Machine
end

section
/-! SUPPORT. The statements of 43_undocumented.md settled. -/

namespace Sys2Proof.Machine

/-- Settles O49: every unstable mnemonic, and no other, goes through the test of `ADMIT_UNSTABLE`. -/
theorem onlyUnstableMeaningsRefuse : Obligations.OnlyUnstableMeaningsRefuse := by
  intro i s
  rw [exec_eq, isUnstable_opcode]
  refine ⟨fun hi hadm => ?_, fun e he => ?_⟩
  · obtain ⟨r, -, hexec⟩ := execAs_of_unstable hi i.opcode i.operand s
    rw [hexec, ifAdmitted_of_not_admitted hadm]
  · have hi : isUnstableMnemonic i.mnemonic = true := by
      by_contra hstable
      exact execAs_answers (Bool.eq_false_iff.mpr hstable) _ _ _ e he
    refine ⟨hi, Bool.eq_false_iff.mpr fun hadm => ?_⟩
    obtain ⟨r, hr, hexec⟩ := execAs_of_unstable hi i.opcode i.operand s
    rw [hexec, ifAdmitted_of_admitted hadm] at he
    exact hr e he

/-- Settles O7: the refusal comes before the operand bytes are read. -/
theorem unstableOpcodeRefusedAtDecode : Obligations.UnstableOpcodeRefusedAtDecode := by
  intro s op q hrun hr hop hadm
  have hunstable : isUnstable op = true := by
    have htable : ∀ b ∈ ([0x8B, 0xAB, 0x93, 0x9F, 0x9B, 0x9C, 0x9E] : List Byte), isUnstable b = true := by decide
    exact htable op hop
  exact step_of_stop hrun (fetch_of_unstable hr hunstable hadm)

/-- Settles O27: the five are reading instructions in every form. -/
theorem undocumentedReadCombinations : Obligations.UndocumentedReadCombinations := by
  refine ⟨⟨encodedAs_of_test (by decide), encodedAs_of_test (by decide), encodedAs_of_test (by decide),
    encodedAs_of_test (by decide), encodedAs_of_test (by decide)⟩,
    fun i s => ⟨fun hi => ?_, fun hi => ?_, fun hi => ?_, fun hi => ?_, fun hi => ?_⟩⟩
  all_goals exact readsOperand_of_mnemonic hi (operandSuits_of_mnemonic hi) rfl fun _ _ _ _ => rfl

/-- Settles O28: ARR is a reading instruction. -/
theorem arrRotatesWithItsOwnCarryAndOverflow : Obligations.ArrRotatesWithItsOwnCarryAndOverflow :=
  ⟨encodedAs_of_test (by decide), fun _ _ hi =>
    readsOperand_of_mnemonic hi (operandSuits_of_mnemonic hi) rfl fun _ _ _ _ => rfl⟩

/-- Settles O29: a NOP that is not in the implied form has an operand that it reads. -/
theorem readingNopsReadAndDiscard : Obligations.ReadingNopsReadAndDiscard := fun _ _ hi ho =>
  readsOperand_of_mnemonic hi ((operandSuits_of_mnemonic hi).resolve_left ho) (if_neg ho) fun _ _ _ _ => rfl

/-- Settles O33: the five are modifying instructions in every form; in RRA the rotate's carry reaches the adder through C. -/
theorem modifyCombinationsCompose : Obligations.ModifyCombinationsCompose := by
  refine ⟨⟨encodedAs_of_test (by decide), encodedAs_of_test (by decide), encodedAs_of_test (by decide),
    encodedAs_of_test (by decide), encodedAs_of_test (by decide)⟩,
    fun i s => ⟨fun hi => ?_, fun hi => ?_, fun hi => ?_, fun hi => ?_, fun hi => ?rra⟩⟩
  case rra =>
    exact modifiesOperand_of_mnemonic hi (operandSuits_of_mnemonic hi).1 rfl (fun _ _ _ => rfl) fun _ _ _ _ n =>
      congrArg (State.advance · n) (addToA_setFlag_carry _ _ _)
  all_goals
    exact modifiesOperand_of_mnemonic hi (operandSuits_of_mnemonic hi).1 rfl (fun _ _ _ => rfl) fun _ _ _ _ _ => rfl

/-- Settles O34: DCP is a modifying instruction whose effect is the compare. -/
theorem dcpComparesWithDecrementedByte : Obligations.DcpComparesWithDecrementedByte :=
  ⟨encodedAs_of_test (by decide), fun _ _ hi =>
    modifiesOperand_of_mnemonic hi (operandSuits_of_mnemonic hi).1 rfl (fun _ _ _ => rfl) fun _ _ _ _ _ => rfl⟩

/-- Settles O46: KIL is the halt alone, and its bytes are rows of the opcode map. -/
theorem kilHaltsAndChangesNothing : Obligations.KilHaltsAndChangesNothing := by
  refine ⟨fun i s hi => exec_of_mnemonic hi s, fun i => ?_⟩
  have htable : ∀ op : Byte, ∀ row ∈ signature op, (row.1 = .KIL ↔
      op ∈ ([0x02, 0x12, 0x22, 0x32, 0x42, 0x52, 0x62, 0x72, 0x92, 0xB2, 0xD2, 0xF2] : List Byte)) := by decide
  exact htable _ _ (signature_opcode i)

/-- Settles O47: admitted, XAA and LXA are reading instructions. -/
theorem admittedXaaAndLxa : Obligations.AdmittedXaaAndLxa := by
  refine ⟨⟨encodedAs_of_test (by decide), encodedAs_of_test (by decide)⟩, fun i s hadm => ⟨fun hi => ?_, fun hi => ?_⟩⟩
  all_goals
    exact readsOperand_of_mnemonic hi (operandSuits_of_mnemonic hi) (ifAdmitted_of_admitted hadm _ _) fun _ _ _ _ => rfl

/-- Settles O48: admitted, each is a high store from the base its operand names; TAS begins it with SP written. -/
theorem admittedHighStores : Obligations.AdmittedHighStores := by
  intro i s hadm hhigh
  obtain ⟨z, rfl⟩ | ⟨a, rfl⟩ | ⟨a, rfl⟩ | ⟨a, rfl⟩ | ⟨a, rfl⟩ := highStore_cases hhigh
  case' inl => have hexec : exec (.shaIndY z) s = storeHigh 0x93 (.indirectY z) shaValue s := if_pos hadm
  case' inr.inl => have hexec : exec (.shaAbsY a) s = storeHigh 0x9F (.absoluteY a) shaValue s := if_pos hadm
  case' inr.inr.inl =>
    have hexec : exec (.tasAbsY a) s = storeHigh 0x9B (.absoluteY a) tasValue (tasEffect s) := if_pos hadm
  case' inr.inr.inr.inl => have hexec : exec (.shyAbsX a) s = storeHigh 0x9C (.absoluteX a) shyValue s := if_pos hadm
  case' inr.inr.inr.inr => have hexec : exec (.shxAbsY a) s = storeHigh 0x9E (.absoluteY a) shxValue s := if_pos hadm
  all_goals exact exec_of_storeHigh hexec nofun (BitVec.add_sub_cancel _ _) rfl

end Sys2Proof.Machine
end

section
/-! SUPPORT. Where a fatal error stops: the access that raises it is the last of the history (assumption log 14), after a
beginning of the accesses the operation makes (rules R66, R311). -/

namespace Sys2Proof.Machine

/-! ### The access that fails -/

/-- From `s`, the bus fault `b` was raised at the last of a beginning of the accesses `l`, all of which are in its history. -/
def StopsWithin (l : List (AccessKind × Addr)) (s : State) (b : BusFault) : Prop :=
  ∃ events e, b.history = s.history ++ (events ++ [e]) ∧ (events ++ [e]).map access <+: l ∧
    b.addr = e.addr ∧ b.access = some e.kind

/-- A part of a body that, begun in `s`, fails, if at all, within the accesses `l`. -/
def FailsWithin {α : Type} (l : List (AccessKind × Addr)) (s : State) (x : Except BusFault α) : Prop :=
  ∀ b, x = .error b → StopsWithin l s b

theorem failsWithin_ok {α : Type} (l : List (AccessKind × Addr)) (s : State) (a : α) :
    FailsWithin l s (.ok a : Except BusFault α) := fun _ h => nomatch h

/-- The event of a read that fails has no byte (assumption log 14). -/
theorem read8_error_history {k : AccessKind} {addr : Addr} {s : State} {b : BusFault} (h : read8 k addr s = .error b) :
    ∃ call, b.history = s.history ++ [{ kind := k, addr := addr, value := none, call := call }] := by
  unfold read8 at h
  split at h
  case h_4 =>
    split at h
    · cases h; exact ⟨none, rfl⟩
    · split at h <;> cases h
      exact ⟨some _, rfl⟩
  all_goals cases h

/-- The event of a write that fails has the byte written (assumption log 14). -/
theorem write8_error_history {k : AccessKind} {addr : Addr} {v : Byte} {s : State} {b : BusFault}
    (h : write8 k addr v s = .error b) :
    ∃ call, b.history = s.history ++ [{ kind := k, addr := addr, value := some v, call := call }] := by
  unfold write8 at h
  split at h
  case h_2 => cases h; exact ⟨none, rfl⟩
  case h_4 =>
    split at h
    · cases h; exact ⟨none, rfl⟩
    · split at h <;> cases h
      exact ⟨some _, rfl⟩
  all_goals cases h

theorem failsWithin_read8 (k : AccessKind) (addr : Addr) (s : State) : FailsWithin [(k, addr)] s (read8 k addr s) := by
  intro b h
  obtain ⟨call, hhistory⟩ := read8_error_history h
  obtain ⟨-, haddr, haccess⟩ := read8_error h
  exact ⟨[], _, hhistory, List.prefix_refl _, haddr, haccess⟩

theorem failsWithin_write8 (k : AccessKind) (addr : Addr) (v : Byte) (s : State) :
    FailsWithin [(k, addr)] s (write8 k addr v s) := by
  intro b h
  obtain ⟨call, hhistory⟩ := write8_error_history h
  obtain ⟨-, haddr, haccess⟩ := write8_error h
  exact ⟨[], _, hhistory, List.prefix_refl _, haddr, haccess⟩

namespace FailsWithin
variable {α β : Type} {l l' : List (AccessKind × Addr)} {s t : State}

theorem mono {x : Except BusFault α} (h : FailsWithin l s x) (hl : l <+: l') : FailsWithin l' s x := by
  intro b hb
  obtain ⟨events, e, hhistory, haccesses, hrecord⟩ := h b hb
  exact ⟨events, e, hhistory, haccesses.trans hl, hrecord⟩

theorem bind_ok {x : Except BusFault α} {g : α → β} (h : FailsWithin l s x) :
    FailsWithin l s (x >>= fun a => .ok (g a)) := by
  cases x with
  | ok a => exact failsWithin_ok l s (g a)
  | error b => exact fun _ hb => by cases hb; exact h b rfl

/-- A part begun after the accesses `l` fails within `l` and its own. -/
theorem after {x : Except BusFault α} (hx : FailsWithin l' t x) (hst : MakesAccesses l s t) :
    FailsWithin (l ++ l') s x := by
  intro b hb
  obtain ⟨events', e, hhistory, haccesses, hrecord⟩ := hx b hb
  obtain ⟨events, ht, rfl⟩ := hst
  refine ⟨events ++ events', e, by simp only [hhistory, ht, List.append_assoc], ?_, hrecord⟩
  rw [List.append_assoc, List.map_append]
  exact (List.prefix_append_right_inj _).mpr haccesses

/-- A read and a part that goes on with its byte: the read fails, or it is made and the part fails. -/
theorem read8_bind {k : AccessKind} {addr : Addr} {f : Byte × State → Except BusFault β}
    (hf : ∀ m t, FailsWithin l t (f (m, t))) : FailsWithin ((k, addr) :: l) s (read8 k addr s >>= f) := by
  cases hread : read8 k addr s with
  | ok p => exact (hf p.1 p.2).after (makesAccesses_of_read8 hread)
  | error b =>
    intro b' hb
    cases hb
    exact ((failsWithin_read8 k addr s).mono (List.prefix_append [(k, addr)] l)) b hread

end FailsWithin

/-- A result that is, if a fatal error, the one of the instruction of opcode byte `op` begun in `s`, within the accesses `l`. -/
def FaultsWithin (l : List (AccessKind × Addr)) (op : Byte) (s : State) (r : Result) : Prop :=
  ∀ f, r = .fault f → ∃ b, StopsWithin l s b ∧ raiseFatal (s.pc - 1) (some op) b = .fault f

theorem faultsWithin_next (l : List (AccessKind × Addr)) (op : Byte) (s t : State) : FaultsWithin l op s (.next t) :=
  fun _ h => nomatch h

theorem FailsWithin.complete {l : List (AccessKind × Addr)} {s : State} {x : Except BusFault State}
    (hx : FailsWithin l s x) (op : Byte) : FaultsWithin l op s (complete op s x) := by
  intro f h
  cases x with
  | ok t => exact faultsWithin_next l op s t f h
  | error b => exact ⟨b, hx b rfl, h⟩

theorem FaultsWithin.ifAdmitted {l : List (AccessKind × Addr)} {op : Byte} {s : State} {r : Result}
    (hr : FaultsWithin l op s r) : FaultsWithin l op s (ifAdmitted op r s) := by
  unfold Machine.ifAdmitted
  split
  · exact hr
  · exact fun _ h => nomatch h

/-! ### The operations on an operand -/

section
variable {i : Instr} {op : Byte} {s : State}

theorem readOperand_eq_read8 {o : Operand} (ho : OperandInMemory o) (s : State) :
    readOperand o s = read8 .dataRead (effectiveAddr o s) (s.afterPointers o) := by
  obtain ⟨hmode, himm⟩ := ho
  have hread : readOperand o s = (do let (ea, s) ← resolve o s; read8 .dataRead ea s) := by
    cases o
    case immediate b => exact absurd rfl (himm b)
    all_goals rfl
  rw [hread, resolve_eq hmode]
  rfl

/-- An immediate byte is the fetch's; the read of any other operand fails at its one data access (assumption log 13). -/
theorem failsWithin_readOperand (hclass : isReading i.mnemonic = true) (hmode : i.operand.mode ≠ .noneAddressing) :
    FailsWithin (bodyAccesses i s) s (readOperand i.operand s) := by
  by_cases himm : ∃ b, i.operand = .immediate b
  · obtain ⟨b, hb⟩ := himm
    rw [hb]
    exact failsWithin_ok _ _ _
  · have ho : OperandInMemory i.operand := ⟨hmode, not_exists.mp himm⟩
    obtain ⟨hhigh, hstore, hmodify⟩ := class_of_isReading hclass
    rw [readOperand_eq_read8 ho, bodyAccesses_of_inMemory ho, hhigh, hstore, hmodify]
    exact (failsWithin_read8 _ _ _).after (makesAccesses_afterPointers _ s)

theorem readInstr_faultsWithin {eff : Byte → State → State} (hclass : isReading i.mnemonic = true)
    (hmode : i.operand.mode ≠ .noneAddressing) :
    FaultsWithin (bodyAccesses i s) op s (readInstr op i.operand eff s) :=
  (failsWithin_readOperand hclass hmode).bind_ok.complete op

theorem storeInstr_faultsWithin {val : State → Byte} (hstore : isStoring i.mnemonic = true)
    (hhigh : isHighStore i.mnemonic = false) (ho : OperandInMemory i.operand) :
    FaultsWithin (bodyAccesses i s) op s (storeInstr op i.operand val s) := by
  rw [storeInstr_eq ho.1, bodyAccesses_of_inMemory ho, hhigh, hstore]
  exact ((failsWithin_write8 _ _ _ _).bind_ok.after (makesAccesses_afterPointers _ s)).complete op

theorem modifyInstr_faultsWithin {val : Byte → State → Byte} {eff : Byte → State → State}
    (hclass : isModifying i.mnemonic = true) (ho : OperandInMemory i.operand) :
    FaultsWithin (bodyAccesses i s) op s (modifyInstr op i.operand val eff s) := by
  obtain ⟨hhigh, hstore⟩ := class_of_isModifying hclass
  rw [modifyInstr_eq ho.1, bodyAccesses_of_inMemory ho, hhigh, hstore, hclass]
  exact ((FailsWithin.read8_bind fun _ _ => (failsWithin_write8 _ _ _ _).bind_ok).after
    (makesAccesses_afterPointers _ s)).complete op

theorem storeHigh_faultsWithin {val : State → Byte} (hhigh : isHighStore i.mnemonic = true)
    (ho : OperandInMemory i.operand) (hval : val (s.afterPointers i.operand) = highRegister i.mnemonic s) :
    FaultsWithin (bodyAccesses i s) op s (storeHigh op i.operand val s) := by
  rw [storeHigh_eq ho.1, bodyAccesses_of_inMemory ho, hhigh, hval]
  exact ((failsWithin_write8 _ _ _ _).bind_ok.after (makesAccesses_afterPointers _ s)).complete op

/-- TAS loads SP first, which neither its accesses nor its record name (rule R283). -/
theorem tas_faultsWithin {a : Addr} (hm : i.mnemonic = .TAS) (ha : i.operand = .absoluteY a) :
    FaultsWithin (bodyAccesses i s) op s (storeHigh op i.operand tasValue (tasEffect s)) := by
  have ho : OperandInMemory i.operand := by rw [ha]; exact ⟨nofun, nofun⟩
  have hbody : bodyAccesses i (tasEffect s) = bodyAccesses i s := by simp only [bodyAccesses, ha, hm]; rfl
  have hval : tasValue ((tasEffect s).afterPointers i.operand) = highRegister i.mnemonic (tasEffect s) := by
    rw [hm, tasValue, State.afterPointers_sp]; rfl
  rw [← hbody]
  exact storeHigh_faultsWithin (s := tasEffect s) (by rw [hm]; rfl) ho hval

theorem execJmpInd_faultsWithin (a : Addr) :
    FaultsWithin [(.pointer, a), (.pointer, indirectHigh a)] 0x6C s (execJmpInd a s) := by
  refine FailsWithin.complete (FailsWithin.read8_bind fun lo t => ?_) _
  exact (failsWithin_read8 _ _ _).bind_ok

theorem eq_jmpInd_of_operand {a : Addr} (h : i.operand = .indirectTarget a) : i = .jmpInd a := by
  cases i
  case jmpInd => cases h; rfl
  all_goals cases h

end

/-! ### The instructions -/

/-- The stack is RAM, so only the accesses of an operand and of a JMP's pointer can fail (rules R26, R53). -/
theorem exec_faultsWithin (i : Instr) (s : State) : FaultsWithin (bodyAccesses i s) i.opcode s (exec i s) := by
  rw [exec_eq]
  have ho := operandSuits i
  generalize hm : i.mnemonic = m at ho
  cases m
  case ORA | ANC | AND | BIT | EOR | ALR | ADC | ARR | LDY | LDA | LDX | LAX | LAS | CPY | CMP | AXS | CPX | SBC =>
    exact readInstr_faultsWithin (by rw [hm]; rfl) ho
  case XAA | LXA => exact (readInstr_faultsWithin (by rw [hm]; rfl) ho).ifAdmitted
  case SLO | RLA | SRE | RRA | DCP | ISB | DEC | INC => exact modifyInstr_faultsWithin (by rw [hm]; rfl) ho
  case ASL | ROL | LSR | ROR =>
    rw [execAs]
    split
    · exact faultsWithin_next _ _ _ _
    · exact modifyInstr_faultsWithin (by rw [hm]; rfl) (ho.resolve_left ‹_›)
  case STA | SAX | STY | STX => exact storeInstr_faultsWithin (by rw [hm]; rfl) (by rw [hm]; rfl) ho
  case SHA | SHY | SHX =>
    refine (storeHigh_faultsWithin (by rw [hm]; rfl) ho ?_).ifAdmitted
    simp only [shaValue, shyValue, shxValue, State.afterPointers_a, State.afterPointers_x, State.afterPointers_y, hm,
      highRegister]
  case TAS =>
    obtain ⟨a, ha⟩ := ho
    exact (tas_faultsWithin hm ha).ifAdmitted
  case NOP =>
    rw [execAs]
    split
    · exact faultsWithin_next _ _ _ _
    · exact readInstr_faultsWithin (by rw [hm]; rfl) (ho.resolve_left ‹_›)
  case BPL | BMI | BVC | BVS | BCC | BCS | BNE | BEQ =>
    obtain ⟨r, hr⟩ := ho
    rw [hr]
    exact faultsWithin_next _ _ _ _
  case JSR =>
    obtain ⟨a, ha⟩ := ho
    simp only [ha, execAs, execJsr, push16_eq]
    exact faultsWithin_next _ _ _ _
  case JMP =>
    obtain ⟨a, ha⟩ | ⟨a, ha⟩ := ho
    · rw [ha]
      exact faultsWithin_next _ _ _ _
    · obtain rfl := eq_jmpInd_of_operand ha
      exact execJmpInd_faultsWithin a
  case PHP | PHA | PLP | PLA | RTI | RTS =>
    simp only [execAs, execPhp, execPha, execPlp, execPla, execRti, execRts, push8_eq, pop8_eq, pop16_eq]
    exact faultsWithin_next _ _ _ _
  all_goals exact faultsWithin_next _ _ _ _

theorem Fault.record_ofKind (k : FatalKind) (r : FatalRecord) (h : List BusEvent) : (Fault.ofKind k r h).record = r := by
  cases k <;> rfl

theorem Fault.history_ofKind (k : FatalKind) (r : FatalRecord) (h : List BusEvent) : (Fault.ofKind k r h).history = h := by
  cases k <;> rfl

end Sys2Proof.Machine
end

section
/-! SUPPORT. A fetch that stops at a fatal access: the record names the opcode once it is read (rules R311, R325). -/

namespace Sys2Proof.Machine

variable {s : State} {k : FatalKind} {op : Byte} {q : List PpuAnswer} {f : Form}

/-- Where the opcode byte cannot be read the record names none (the spec's decision D19). -/
theorem fetch_of_readStops (h : ReadStops s s.pc k) :
    ∃ hist, fetch s = .stop (raiseFatal s.pc none ⟨k, s.pc, some .fetch, hist⟩) := by
  obtain ⟨hist, hread⟩ := read8_of_readStops (k := .fetch) h
  exact ⟨hist, by simp only [fetch, hread]⟩

/-- A fatal read of an operand byte, after the opcode byte `op` has been read and admitted. -/
theorem fetch_of_fetchOperand_error {b : BusFault} (hop : ReadsAt s s.pc op q) (hf : form op = some f)
    (hadm : isUnstable op = false ∨ s.config.admitUnstable = true)
    (hb : fetchOperand f { s.afterReadAs .fetch s.pc op q with pc := s.pc + 1 } = .error b) :
    fetch s = .stop (raiseFatal s.pc (some op) b) := by
  have hadm : (isUnstable op && !s.config.admitUnstable) = false := by
    obtain h | h := hadm <;> simp [h]
  rw [State.afterReadAs] at hb
  simp only [fetch, read8_of_readsAt hop, hf, hadm, hb, Bool.false_eq_true, if_false]

/-- The kind of access that reads a form's first operand byte (assumption log 13). -/
def operandAccess (f : Form) : AccessKind :=
  match f with
  | .immediate _ => .dataRead
  | _ => .operand

theorem fetchOperand_of_readStops (h : ReadStops s s.pc k) (himp : ∀ i, f ≠ .implied i) :
    ∃ hist, fetchOperand f s = .error ⟨k, s.pc, some (operandAccess f), hist⟩ := by
  obtain ⟨hist, hread⟩ := read8_of_readStops (k := operandAccess f) h
  refine ⟨hist, ?_⟩
  cases f with
  | implied i => exact absurd rfl (himp i)
  | immediate | byte | word =>
    simp only [operandAccess] at hread
    simp only [fetchOperand, hread, operandAccess, bind, Except.bind]

theorem fetchOperand_word_of_readStops {w : Addr → Instr} {lo : Byte} (hlo : ReadsAt s s.pc lo q)
    (hhi : ReadStops (s.afterReadAs .operand s.pc lo q) (s.pc + 1) k) :
    ∃ hist, fetchOperand (.word w) s = .error ⟨k, s.pc + 1, some .operand, hist⟩ := by
  obtain ⟨hist, hread⟩ := read8_of_readStops (k := .operand) hhi
  refine ⟨hist, ?_⟩
  rw [State.afterReadAs] at hread
  simp only [fetchOperand, read8_of_readsAt hlo, hread, bind, Except.bind]

end Sys2Proof.Machine
end

section
/-! SUPPORT. The statements of 60_exceptions.md settled. -/

namespace Sys2Proof.Machine

/-- Settles O8: the fetch stops at the first access that is fatal, and `PC` is past the opcode byte when operand bytes are
read. -/
theorem fetchFaultsNameTheAccess : Obligations.FetchFaultsNameTheAccess := by
  intro s hrun
  refine ⟨fun k hk => ?_, fun op q f hop hf hadm => ⟨fun k hk himp => ?_, fun k lo q₁ i hword hlo hk => ?_⟩⟩
  · obtain ⟨hist, h⟩ := fetch_of_readStops hk
    exact ⟨hist, step_of_stop hrun h⟩
  · obtain ⟨hist, h⟩ :=
      fetchOperand_of_readStops (s := { s.afterReadAs .fetch s.pc op q with pc := s.pc + 1 }) hk himp
    exact ⟨hist, step_of_stop hrun (fetch_of_fetchOperand_error hop hf hadm h)⟩
  · subst hword
    have hpc : s.pc + 1 + 1 = s.pc + 2 := by bv_omega
    rw [← hpc] at hk ⊢
    obtain ⟨hist, h⟩ := fetchOperand_word_of_readStops (w := i)
      (s := { s.afterReadAs .fetch s.pc op q with pc := s.pc + 1 }) hlo hk
    exact ⟨hist, step_of_stop hrun (fetch_of_fetchOperand_error hop hf hadm h)⟩

/-- Settles O50: a body that faults stops within the accesses of its rule. -/
theorem fatalRecordNamesTheInstruction : Obligations.FatalRecordNamesTheInstruction := by
  intro i s f h
  obtain ⟨b, ⟨events, e, hhistory, haccesses, haddr, haccess⟩, hraise⟩ := exec_faultsWithin i s f h
  cases hraise
  rw [Fault.record_ofKind, Fault.history_ofKind, hhistory]
  refine ⟨rfl, rfl, List.prefix_append _ _, ⟨e, ?_, haddr, haccess⟩, ?_⟩
  · rw [← List.append_assoc, List.getLast?_concat]
  · rw [List.map_append]
    exact (List.prefix_append_right_inj _).mpr haccesses

end Sys2Proof.Machine
end

section
/-! SUPPORT. What `reset()` does (rules R342, R343), which status admits a run or a step (rules R37, R345, R346), how far a run
goes on its fuel (rules R345, R352), and what a step in the status Running can refuse (rule R279). -/

namespace Sys2Proof.Machine

/-! ### `reset()` and the start of a run -/

section
variable {s : State}

/-- A word of the cartridge image is read without a call of the PPU, low byte first (rule R61). -/
theorem read16_prg {k : AccessKind} {addr : Addr} {i j : Nat} (hlo : busDecode s.prgSize addr = .prg i)
    (hhi : busDecode s.prgSize (addr + 1) = .prg j) :
    read16 k addr s = .ok (word16 (Memory.get s.prg j) (Memory.get s.prg i), { s with
      history := s.history ++
        [{ kind := k, addr := addr, value := some (Memory.get s.prg i), call := none },
         { kind := k, addr := addr + 1, value := some (Memory.get s.prg j), call := none }] }) := by
  have hlog : busDecode (s.log k addr (some (Memory.get s.prg i)) none).prgSize (addr + 1) = .prg j := hhi
  simp only [read16, read8_prg hlo, bind, Except.bind, read8_prg hlog]
  simp [State.log]

/-- The vector is in the cartridge image, whatever its length (rule R343). -/
theorem resetBody_eq (s : State) :
    let lo := Memory.get s.prg (prgIndex s.prgSize 0xFFFC)
    let hi := Memory.get s.prg (prgIndex s.prgSize 0xFFFD)
    resetBody s = .next { resetRegisters s with
      pc := word16 hi lo
      history := s.history ++
        [{ kind := .vectorRead, addr := 0xFFFC, value := some lo, call := none },
         { kind := .vectorRead, addr := 0xFFFD, value := some hi, call := none }] } := by
  intro lo hi
  have hread := read16_prg (s := resetRegisters s) (k := .vectorRead) (addr := 0xFFFC)
    (busDecode_prg (by decide)) (busDecode_prg (by decide))
  rw [resetBody, hread]
  rfl

theorem hostReset_of_admitted (h : s.status = .constructed ∨ s.status = .ready ∨ ∃ r, s.status = .halted r) :
    hostReset s = resetBody s := by
  obtain h | h | ⟨r, h⟩ := h <;> simp only [hostReset, h]

theorem startRun_of_admitted (h : s.status = .ready ∨ ∃ r, s.status = .halted r) :
    startRun s = .next { s with status := .running } := by
  obtain h | ⟨r, h⟩ := h <;> simp only [startRun, h]

theorem startRun_of_not_admitted (hready : s.status ≠ .ready) (hhalted : ∀ r, s.status ≠ .halted r) :
    startRun s = .refused (.notAdmitted s.status) := by
  unfold startRun
  split
  case h_1 h => exact absurd h hready
  case h_2 r h => exact absurd h (hhalted r)
  all_goals rfl

theorem step_of_not_running (h : s.status ≠ .running) : step s = .refused (.notAdmitted s.status) := by
  unfold step
  split
  case h_1 hrun => exact absurd hrun h
  all_goals rfl

end

/-! ### The run -/

theorem run_succ_of_running {s : State} (h : s.status = .running) (n : Nat) :
    run (n + 1) s = (s :: (run n (settle s (step s))).1, (run n (settle s (step s))).2) := by
  simp only [run, h]

theorem run_of_not_running {s : State} (h : s.status ≠ .running) (n : Nat) : run n s = ([], s) := by
  cases n with
  | zero => rfl
  | succ n =>
    rw [run]
    split
    case h_1 hrun => exact absurd hrun h
    all_goals rfl

/-- More fuel changes nothing once a run has ended. -/
theorem run_add_of_ended {n : Nat} {s : State} (h : (run n s).2.status ≠ .running) (k : Nat) :
    (run (n + k) s).2 = (run n s).2 := by
  induction n generalizing s with
  | zero => exact congrArg Prod.snd (run_of_not_running (s := s) h (0 + k))
  | succ n ih =>
    by_cases hrun : s.status = .running
    · rw [run_succ_of_running hrun] at h ⊢
      rw [Nat.succ_add, run_succ_of_running hrun]
      exact ih h
    · rw [run_of_not_running hrun, run_of_not_running hrun]

/-- A run has one end, whatever the fuel it was given to reach it. -/
theorem run_end_unique {m n : Nat} {s : State} (hm : (run m s).2.status ≠ .running)
    (hn : (run n s).2.status ≠ .running) : (run m s).2 = (run n s).2 := by
  obtain hle | hle := Nat.le_total m n
  · obtain ⟨k, rfl⟩ := Nat.exists_eq_add_of_le hle
    exact (run_add_of_ended hm k).symm
  · obtain ⟨k, rfl⟩ := Nat.exists_eq_add_of_le hle
    exact run_add_of_ended hn k

theorem endStatus_unique {m n : Nat} {s : State} {a b : RunStatus} (hm : (run m s).2.status = a)
    (hn : (run n s).2.status = b) (ha : a ≠ .running) (hb : b ≠ .running) : a = b := by
  subst hm hn
  rw [run_end_unique ha hb]

/-! ### What a step refuses -/

theorem fetch_refused {s : State} {e : Refusal} (h : fetch s = .stop (.refused e)) : ∃ op, e = .unstableOpcode op := by
  unfold fetch at h
  split at h
  · cases h
  rename_i op t hop
  split at h
  · cases h
  split at h
  · cases h
    exact ⟨op, rfl⟩
  split at h
  · cases h
  split at h <;> cases h

theorem exec_refused {i : Instr} {s : State} {e : Refusal} (h : exec i s = .refused e) :
    e = .unstableOpcode i.opcode := by
  obtain ⟨hrefuses, honly⟩ := onlyUnstableMeaningsRefuse i s
  obtain ⟨hunstable, hadm⟩ := honly e h
  exact Host.Outcome.refused.inj (h.symm.trans (hrefuses hunstable hadm))

theorem step_refused {s : State} {e : Refusal} (hrun : s.status = .running) (h : step s = .refused e) :
    ∃ op, e = .unstableOpcode op := by
  cases hf : fetch s with
  | decoded i t =>
    rw [step_of_fetch hrun hf] at h
    exact ⟨_, exec_refused h⟩
  | stop r =>
    rw [step_of_stop hrun hf] at h
    subst h
    exact fetch_refused hf

end Sys2Proof.Machine
end

section
/-! SUPPORT. The statements of 70_reset_and_hazards.md settled. -/

namespace Sys2Proof.Machine

/-- Settles O3: two ends of the runs from one state are one state, since more fuel changes nothing after an end. -/
theorem runEndsInAtMostOneWay : Obligations.RunEndsInAtMostOneWay := by
  refine ⟨fun n _ hrun => run_succ_of_running hrun n, fun n _ hrun => run_of_not_running hrun n, fun _ _ => rfl,
    fun _ _ => rfl, fun _ _ => rfl, fun _ _ hrun h => step_refused hrun h, ?_, ?_, ?_, ?_, ?_, ?_⟩
  · rintro s t u ⟨m, r, rfl, hm⟩ ⟨n, r', rfl, hn⟩
    exact run_end_unique (hm ▸ nofun) (hn ▸ nofun)
  · rintro s f g ⟨m, hm⟩ ⟨n, hn⟩
    exact RunStatus.faulted.inj (endStatus_unique hm hn nofun nofun)
  · rintro s op op' ⟨m, hm⟩ ⟨n, hn⟩
    exact RunStatus.refused.inj (endStatus_unique hm hn nofun nofun)
  · rintro s t f ⟨m, r, rfl, hm⟩ ⟨n, hn⟩
    cases endStatus_unique hm hn nofun nofun
  · rintro s t op ⟨m, r, rfl, hm⟩ ⟨n, hn⟩
    cases endStatus_unique hm hn nofun nofun
  · rintro s f op ⟨m, hm⟩ ⟨n, hn⟩
    cases endStatus_unique hm hn nofun nofun

/-- Settles O1: 0xFFFC and 0xFFFD are the bytes of the image at the two indexes that the statement names. -/
theorem resetWritesRegistersAndVector : Obligations.ResetWritesRegistersAndVector := by
  intro s hs at0 lo hi
  obtain ⟨hlo, hhi⟩ : prgIndex s.prgSize 0xFFFC = at0 ∧ prgIndex s.prgSize 0xFFFD = at0 + 1 := by
    subst at0
    cases s.prgSize <;> exact ⟨rfl, rfl⟩
  rw [hostReset_of_admitted hs, resetBody_eq, hlo, hhi]
  rfl

/-- Settles O2: `startRun` and `step` go by the run status alone. -/
theorem runStatusAdmitsRunsAndSteps : Obligations.RunStatusAdmitsRunsAndSteps := fun _ =>
  ⟨startRun_of_admitted, fun ⟨hready, hhalted⟩ => startRun_of_not_admitted hready hhalted, step_of_not_running⟩

/-- Settles O4: every byte of the empty image reads 0x00, the vector's two among them. -/
theorem resetStateIsResetOfEmptyCartridge : Obligations.ResetStateIsResetOfEmptyCartridge := by
  refine ⟨?_, startRun_of_admitted (.inl rfl)⟩
  rw [hostReset_of_admitted (.inl rfl), resetBody_eq]
  rfl

end Sys2Proof.Machine
end
